-- ==== Sys2Proof/Word.lean ====
section
/-! DEFINITION. The machine's words and the type of its sparse stores (00_scope.md R6, R10, R11). -/

namespace Sys2Proof

/-- A byte (R6). -/
abbrev Byte := BitVec 8

/-- A CPU address (R6). A PPU address is carried in the same type and masked to 14 bits where it is decoded (R99). -/
abbrev Addr := BitVec 16

/-- A 24-bit RGB value (R9). -/
abbrev Rgb := BitVec 24

/-- A store of `w`-bit cells as (address, value) pairs: addresses strictly rising, no entry equal to zero, an unlisted address
reads as zero (`Memory.wf`, log 3). `Memory 8` is a list of `Host.Cell`. -/
abbrev Memory (w : Nat) := List (Nat × BitVec w)

end Sys2Proof
end

