-- ==== Sys2Proof/Machine/Bits.lean ====
section
/-! DEFINITION. Bit fields, sign extension and byte halves (00_scope.md R10, R11; 10_state.md R64). -/

namespace Sys2Proof.Machine

/-- `lo(w)` (R11). -/
def lo (w : Addr) : Byte := w.setWidth 8

/-- `hi(w)` (R11). -/
def hi (w : Addr) : Byte := (w >>> 8).setWidth 8

/-- `(hh << 8) | ll` (R11). -/
def join (hh ll : Byte) : Addr := hh ++ ll

/-- `page(w)` (R11). -/
def page (w : Addr) : Addr := w &&& 0xFF00#16

/-- `zext_16(b)` (R11). -/
def zext16 (b : Byte) : Addr := b.setWidth 16

/-- `sext_16(b)` (R11). -/
def sext16 (b : Byte) : Addr := b.signExtend 16

/-- `old` with the bits of `mask` taken from `new`: the assignment of a bit field (10_state.md R64). -/
def blend {w : Nat} (mask new old : BitVec w) : BitVec w := (old &&& ~~~mask) ||| (new &&& mask)

/-- A flag as a byte, 0 or 1. -/
def boolByte (b : Bool) : Byte := if b then 1#8 else 0#8

/-- `reverse_bits_8(b)` (51_ppu.md R414). -/
def reverse8 (b : Byte) : Byte := b.reverse

end Sys2Proof.Machine
end

