-- ==== Sys2Proof/Machine/Memory.lean ====
section
/-! DEFINITION. Reading and writing one cell of a sparse store, in canonical form (log 3). -/

namespace Sys2Proof

/-- The value at an address; an unlisted address reads as zero (log 3). -/
def Memory.read {w : Nat} : Memory w → Nat → BitVec w
  | [], _ => 0#w
  | (k, v) :: rest, a => if a = k then v else Memory.read rest a

/-- Puts an entry in front of the first entry with a larger address. -/
def Memory.place {w : Nat} : Memory w → Nat → BitVec w → Memory w
  | [], a, v => [(a, v)]
  | (k, u) :: rest, a, v => if a < k then (a, v) :: (k, u) :: rest else (k, u) :: Memory.place rest a v

/-- Takes every entry of an address out. -/
def Memory.drop {w : Nat} : Memory w → Nat → Memory w
  | [], _ => []
  | (k, u) :: rest, a => if k = a then Memory.drop rest a else (k, u) :: Memory.drop rest a

/-- Writes one cell, keeping the canonical form: writing zero, what an unlisted address reads as, takes the entry out. -/
def Memory.write {w : Nat} (m : Memory w) (a : Nat) (v : BitVec w) : Memory w :=
  if v = 0#w then Memory.drop m a else Memory.place (Memory.drop m a) a v

/-- The store that lists `vs` from address `a` on. -/
def Memory.ofList {w : Nat} : Nat → List (BitVec w) → Memory w
  | _, [] => []
  | a, v :: vs => if v = 0#w then Memory.ofList (a + 1) vs else (a, v) :: Memory.ofList (a + 1) vs

/-- The store of `n` cells that all hold `v`. -/
def Memory.fill {w : Nat} (n : Nat) (v : BitVec w) : Memory w :=
  if v = 0#w then [] else (List.range n).map fun a => (a, v)

end Sys2Proof
end

