-- ==== Sys2Proof/Config.lean ====
section
/-! DEFINITION. What is fixed for one machine: the cartridge configuration, the launch arguments, the closed parameters, and the
names of the opcode metadata (00_scope.md R8, R9; 10_state.md R35, R63). -/

namespace Sys2Proof

/-- The nametable mirroring modes (10_state.md R52). `singleLow` and `singleHigh` are reachable only at run time, through SxROM. -/
inductive Mirroring where
  | horizontal
  | vertical
  | singleLow
  | singleHigh
  | fourScreen
  deriving DecidableEq, Repr

/-- The "closed tagged variant" of mappers (52_mappers.md R450): mapper numbers 0, 1 and 4. -/
inductive MapperKind where
  | nrom
  | sxrom
  | txrom
  deriving DecidableEq, Repr

/-- The cartridge configuration `Cart` (00_scope.md R8). `prg` and `chr` hold the ROM bytes by offset into the whole PRG and CHR
data. The TV system has no field: `NTSC` is its only value. -/
structure Cart where
  prgBanks    : Nat
  chrBanks    : Nat
  mirroring   : Mirroring
  battery     : Bool
  trainer     : Bool
  mapper      : MapperKind
  prgRamUnits : Nat
  prg         : Memory 8
  chr         : Memory 8
  deriving DecidableEq, Repr

/-- The parameters that stay fixed while the machine runs: the cartridge, and the colour table `PALETTE` (00_scope.md R9). -/
structure Config where
  cart    : Cart
  colours : Memory 24
  deriving DecidableEq, Repr

/-- The arguments of `load` (50_bus_devices.md R345): the parameters and the launch-state memories `RAM_INIT`, `WRAM_INIT`. -/
structure Launch where
  cfg      : Config
  ramInit  : Memory 8
  wramInit : Memory 8
  deriving DecidableEq, Repr

/-- One 16 KiB PRG bank, one 8 KiB PRG unit, one 8 KiB CHR bank (00_scope.md R7). -/
abbrev prgBankSize : Nat := 16384
abbrev prgUnitSize : Nat := 8192
abbrev chrBankSize : Nat := 8192
abbrev ramSize : Nat := 2048
abbrev wramSize : Nat := 8192
abbrev ntSize : Nat := 2048
abbrev oamSize : Nat := 256
abbrev paletteSize : Nat := 32
abbrev apuSize : Nat := 24
abbrev colourCount : Nat := 64
/-- 240 rows of 256 pixels, row major (10_state.md R51). -/
abbrev fbSize : Nat := 61440

/-- `BUS_MISS` (00_scope.md R9, 20_memory.md R77). -/
abbrev busMiss : Byte := 0x00#8
/-- `RESET_CYCLES` (00_scope.md R9). -/
abbrev resetCycles : BitVec 64 := 0#64

/-- The vectors (60_exceptions.md R531). -/
abbrev nmiVector : Addr := 0xFFFA#16
abbrev resetVector : Addr := 0xFFFC#16
abbrev irqVector : Addr := 0xFFFE#16

/-- The cartridge of `State.reset` (DESIGN CHOICE, log 2): NROM, one PRG bank with every byte $00, no CHR ROM. -/
def Cart.blank : Cart :=
  { prgBanks := 1, chrBanks := 0, mirroring := .horizontal, battery := false, trainer := false, mapper := .nrom,
    prgRamUnits := 1, prg := [], chr := [] }

/-- The launch of `State.reset` (DESIGN CHOICE, log 2): the blank cartridge, every colour, RAM and WRAM byte zero. -/
def Launch.blank : Launch :=
  { cfg := { cart := Cart.blank, colours := [] }, ramInit := [], wramInit := [] }

/-- The operation ids of the opcode metadata (10_state.md R35): the mnemonics of 30_encoding.md R141, and the hole (R150). -/
inductive Op where
  | adc | and | asl | bcc | bcs | beq | bit | bmi | bne | bpl | brk | bvc | bvs | clc | cld | cli | clv | cmp | cpx | cpy
  | dec | dex | dey | eor | inc | inx | iny | jmp | jsr | lda | ldx | ldy | lsr | nop | ora | pha | php | pla | plp | rol
  | ror | rti | rts | sbc | sec | sed | sei | sta | stx | sty | tax | tay | tsx | txa | txs | tya
  | lax | sax | dcp | isb | slo | rla | sre | rra
  | hole
  deriving DecidableEq, Repr

/-- The addressing modes (30_encoding.md R125 to R133). -/
inductive Mode where
  | imp | acc | imm | zp | zpx | zpy | abs | abx | aby | ind | izx | izy | rel
  deriving DecidableEq, Repr

end Sys2Proof
end

