-- ==== Sys2Proof/Machine/State.lean ====
section
/-! DEFINITION. The machine's state, every piece the spec gives it (10_state.md), as plain data, the two kinds of stop, and the state
after reset. -/

namespace Sys2Proof.Machine

/-- Why a step stops with a fault: NOTHING does. "No step of the machine returns an error" (00_scope.md R16); there is no bus error,
alignment fault, illegal-instruction trap or protection fault (60_exceptions.md R520). The type has no constructor, so no meaning can
answer with a fault, and that is neither safe nor unsafe: it is the spec's own rule (log 11). -/
inductive Fault where
  deriving DecidableEq, Repr

/-- Why the model has no meaning for something. No step of the machine refuses anything (00_scope.md R16); `load` refuses a
configuration (52_mappers.md R455). -/
inductive Refusal where
  /-- An instruction with no meaning yet, by its mnemonic. Raised by an arm of `exec` alone; no arm raises it. Safe. -/
  | notModelled (mnemonic : String)
  /-- The magic is wrong (52_mappers.md R451, R455). Raised by `loadFile`. Safe: the spec refuses it too. -/
  | badMagic
  /-- The file is shorter than its header says (R455). Raised by `loadFile`. Safe: the spec refuses it too. -/
  | shortFile
  /-- Header byte 9 is not zero (R455). Raised by `loadFile`. Safe: the spec refuses it too. -/
  | headerByte9
  /-- The mapper number is not 0, 1 or 4 (R455). Raised by `loadFile`. Safe: the spec refuses it too. -/
  | unknownMapper (number : Nat)
  /-- The header gives no PRG bank (R455). Raised by `loadFile`. Safe: the spec refuses it too. -/
  | noPrgBanks
  deriving DecidableEq, Repr

/-- The halves of a two-cycle byte move of the OAM DMA engine (10_state.md R41). -/
inductive DmaPhase where
  | read
  | write
  deriving DecidableEq, Repr

/-- The OAM DMA engine (10_state.md R41). -/
structure Dma where
  active : Bool
  page   : Byte
  dummy  : Nat
  index  : Byte
  phase  : DmaPhase
  latch  : Byte
  deriving DecidableEq, Repr

/-- Controller 1 (10_state.md R42). -/
structure Pad where
  strobe   : Bool
  snapshot : Byte
  cursor   : Nat
  deriving DecidableEq, Repr

/-- One sprite slot of the secondary OAM (10_state.md R48). -/
structure SpriteSlot where
  y      : Byte
  tile   : Byte
  attr   : Byte
  x      : Byte
  patLo  : Byte
  patHi  : Byte
  isZero : Bool
  deriving DecidableEq, Repr

/-- The PPU (10_state.md R44 to R51). A sprite buffer's `count` is its length (log 13). -/
structure Ppu where
  scanline  : Nat
  dot       : Nat
  ctrl      : Byte
  mask      : Byte
  vblank    : Bool
  spr0hit   : Bool
  overflow  : Bool
  oamaddr   : Byte
  v         : BitVec 15
  t         : BitVec 15
  x         : BitVec 3
  w         : Bool
  readbuf   : Byte
  oam       : Memory 8
  sprCur    : List SpriteSlot
  sprNext   : List SpriteSlot
  palette   : Memory 6
  nt        : Memory 8
  ntExt     : Memory 8
  bgNt      : Byte
  bgAt      : BitVec 2
  bgLo      : Byte
  bgHi      : Byte
  shPatLo   : BitVec 16
  shPatHi   : BitVec 16
  shAtLo    : BitVec 16
  shAtHi    : BitVec 16
  frameDone : Bool
  fb        : Memory 24
  deriving DecidableEq, Repr

/-- The SxROM registers (10_state.md R55). -/
structure SxRegs where
  shift   : BitVec 5
  count   : Nat
  control : BitVec 5
  chr0    : BitVec 5
  chr1    : BitVec 5
  prg     : BitVec 5
  deriving DecidableEq, Repr

/-- The TxROM registers (10_state.md R56). `r` holds the eight bank data registers. -/
structure TxRegs where
  select     : Byte
  r          : Memory 8
  irqLatch   : Byte
  irqReload  : Bool
  irqEnable  : Bool
  ramProtect : Byte
  deriving DecidableEq, Repr

/-- The mapper in force with its registers (52_mappers.md R450). NROM has none (10_state.md R54). -/
inductive Mapper where
  | nrom
  | sxrom (m : SxRegs)
  | txrom (m : TxRegs)
  deriving DecidableEq, Repr

/-- What the host does between two ticks (50_bus_devices.md R345). -/
inductive HostOp where
  | reset
  | setButtons (b : Byte)
  | pullIrq
  | pullNmi
  | grabFrameDone
  deriving DecidableEq, Repr

/-- The host's side (the model's own field, log 6): the buttons it holds now (50_bus_devices.md R330), and what it will do before
each of the coming ticks, the next tick's operations first. -/
structure HostPort where
  buttons : Byte
  script  : List (List HostOp)
  deriving DecidableEq, Repr

/-- The whole machine (10_state.md R20 to R56). `cur` holds the bytes of the instruction last fetched (R34). -/
structure State where
  a          : Byte
  x          : Byte
  y          : Byte
  s          : Byte
  pc         : Addr
  p          : Byte
  cycles     : BitVec 64
  idle       : Nat
  irqPending : Bool
  nmiPending : Bool
  cur        : List Byte
  ram        : Memory 8
  dma        : Dma
  pad        : Pad
  apu        : Memory 8
  ppu        : Ppu
  wram       : Memory 8
  chrRam     : Memory 8
  mirroring  : Mirroring
  mapper     : Mapper
  cfg        : Config
  host       : HostPort
  deriving DecidableEq, Repr

/-- The outcome of an instruction or a step. -/
abbrev Result := Host.Outcome State Fault Refusal

/-- The DMA engine after reset: inactive (10_state.md R66); the don't-care fields zero (log 4). -/
def Dma.reset : Dma := { active := false, page := 0, dummy := 0, index := 0, phase := .read, latch := 0 }

/-- The controller after reset (10_state.md R66). -/
def Pad.reset : Pad := { strobe := false, snapshot := 0, cursor := 0 }

/-- The PPU after reset (10_state.md R67), the frame buffer given. -/
def Ppu.reset (fb : Memory 24) : Ppu :=
  { scanline := 261, dot := 0, ctrl := 0, mask := 0, vblank := false, spr0hit := false, overflow := false, oamaddr := 0,
    v := 0, t := 0, x := 0, w := false, readbuf := 0, oam := [], sprCur := [], sprNext := [], palette := [], nt := [],
    ntExt := [], bgNt := 0, bgAt := 0, bgLo := 0, bgHi := 0, shPatLo := 0, shPatHi := 0, shAtLo := 0, shAtHi := 0,
    frameDone := false, fb := fb }

/-- SxROM after reset (10_state.md R68). -/
def SxRegs.reset : SxRegs := { shift := 0, count := 0, control := 0x0C#5, chr0 := 0, chr1 := 0, prg := 0 }

/-- TxROM after reset (10_state.md R68). -/
def TxRegs.reset : TxRegs := { select := 0, r := [], irqLatch := 0, irqReload := false, irqEnable := false, ramProtect := 0 }

/-- The state after reset (10_state.md R65 to R68) of the launch `Launch.blank` (log 2): its reset vector reads $0000. That this is
what `powerUp` makes of that launch is the theorem `Laws.reset_eq_powerUp`. -/
def State.reset : State :=
  { a := 0x00#8, x := 0x00#8, y := 0x00#8, s := 0xFD#8, pc := 0x0000#16, p := 0x24#8, cycles := resetCycles, idle := 0,
    irqPending := false, nmiPending := false, cur := [], ram := [], dma := Dma.reset, pad := Pad.reset, apu := [],
    ppu := Ppu.reset [], wram := [], chrRam := [], mirroring := .horizontal, mapper := .nrom,
    cfg := Launch.blank.cfg, host := { buttons := 0, script := [] } }

end Sys2Proof.Machine
end

