-- ==== Sys2Proof/Machine/Devices.lean ====
section
/-! DEFINITION. The I/O strip: starting an OAM DMA, the controller port, the APU stub (50_bus_devices.md R320, R321, R330 to R338). -/

namespace Sys2Proof.Machine

/-- `DmaStart(v)` (R320): one alignment cycle on an even CPU cycle, two on an odd one (R321). -/
def dmaStart (v : Byte) (s : State) : State :=
  { s with dma := { s.dma with
      page := v, index := 0, phase := .read, dummy := if s.cycles.getLsbD 0 then 2 else 1, active := true } }

/-- `PadWrite(v)` (R331). -/
def padWrite (v : Byte) (s : State) : State :=
  if v.getLsbD 0 then { s with pad := { s.pad with strobe := true } }
  else { s with pad := { strobe := false, snapshot := s.host.buttons, cursor := 0 } }

/-- `PadRead()` (R332). -/
def padRead (s : State) : Byte × State :=
  if s.pad.strobe then (boolByte (s.host.buttons.getLsbD 0), s)
  else if s.pad.cursor < 8 then
    (boolByte (s.pad.snapshot.getLsbD s.pad.cursor), { s with pad := { s.pad with cursor := s.pad.cursor + 1 } })
  else (0x01#8, s)

/-- `ApuWrite(addr, v)` (R335). -/
def apuWrite (a : Addr) (v : Byte) (s : State) : State :=
  { s with apu := Memory.write s.apu (a.toNat - 0x4000) v }

/-- `ApuRead()` (R336). -/
def apuRead : Byte := 0x00#8

/-- `ApuStep()` (R338): the stub does nothing, and it never raises IRQ (R337). -/
def apuStep (s : State) : State := s

end Sys2Proof.Machine
end

