-- ==== Sys2Proof/Machine/Flags.lean ====
section
/-! DEFINITION. The status register's flags and every flag computation (10_state.md R23 to R31; 41_arith_logic.md). -/

namespace Sys2Proof.Machine

/-- The flags' places in `P` (R23). -/
abbrev flagC : Byte := 0x01#8
abbrev flagZ : Byte := 0x02#8
abbrev flagI : Byte := 0x04#8
abbrev flagD : Byte := 0x08#8
abbrev flagB : Byte := 0x10#8
abbrev flagU : Byte := 0x20#8
abbrev flagV : Byte := 0x40#8
abbrev flagN : Byte := 0x80#8

/-- Whether a flag is set in a status byte. -/
def hasFlag (f p : Byte) : Bool := p &&& f != 0#8

/-- A status byte with a flag set or cleared. -/
def putFlag (f : Byte) (b : Bool) (p : Byte) : Byte := if b then p ||| f else p &&& ~~~f

/-- The carry as a number. -/
def carryIn (p : Byte) : Nat := (hasFlag flagC p).toNat

/-- Writes one flag of `P`. -/
def setFlag (f : Byte) (b : Bool) (s : State) : State := { s with p := putFlag f b s.p }

/-- `SetZN(v)` (R31). -/
def setZN (v : Byte) (s : State) : State := setFlag flagN (v.getLsbD 7) (setFlag flagZ (v == 0#8) s)

/-- The status byte PHP and BRK push (R24). -/
def pushedWithB (p : Byte) : Byte := p ||| 0x30#8

/-- The status byte IRQ and NMI entry push (R24). -/
def pushedWithoutB (p : Byte) : Byte := (p &&& 0xEF#8) ||| 0x20#8

/-- The status PLP and RTI load from the pulled byte (R24). -/
def pulledStatus (m : Byte) : Byte := (m &&& 0xCF#8) ||| 0x20#8

/-- The 9-bit sum of ADC (41_arith_logic.md R180). -/
def sum9 (a m : Byte) (c : Nat) : Nat := a.toNat + m.toNat + c

/-- Signed overflow of an addition with result `r` (R180): "two same-sign operands producing opposite-sign result". -/
def overflowed (a m r : Byte) : Bool := (a ^^^ r) &&& (m ^^^ r) &&& 0x80#8 != 0#8

/-- ADC of `m` with carry-in `c`: C, V, A, then Z and N (R180). -/
def addWithCarry (m : Byte) (c : Nat) (s : State) : State :=
  let sum := sum9 s.a m c
  let r := BitVec.ofNat 8 sum
  let s' := setFlag flagV (overflowed s.a m r) (setFlag flagC (decide (sum > 0xFF)) s)
  setZN r { s' with a := r }

/-- SBC of `m`: ADC of its complement (R181). -/
def subWithBorrow (m : Byte) (s : State) : State := addWithCarry (m ^^^ 0xFF#8) (carryIn s.p) s

/-- Compare of a register with `m`: C, Z, N, no register (R185 to R187). -/
def compare (r m : Byte) (s : State) : State :=
  setFlag flagN ((r - m).getLsbD 7) (setFlag flagZ (r == m) (setFlag flagC (decide (m ≤ r)) s))

/-- BIT (R188): Z from `A & m`, N and V from the memory byte. -/
def bitTest (m : Byte) (s : State) : State :=
  setFlag flagV (m.getLsbD 6) (setFlag flagN (m.getLsbD 7) (setFlag flagZ (s.a &&& m == 0#8) s))

end Sys2Proof.Machine
end

