-- ==== Sys2Proof/Machine/Mapper.lean ====
section
/-! DEFINITION. The cartridge and its mappers (52_mappers.md): bank views, register writes, and the four mapper entry points
`MapperCpuRead`, `MapperCpuWrite`, `MapperPpuRead`, `MapperPpuWrite`. -/

namespace Sys2Proof.Machine

/-- Offset in the PRG data of byte `o` of 16 KiB bank `b`: `Prg16(b)[o]` (R456). -/
def prg16 (c : Cart) (b o : Nat) : Nat := (b % c.prgBanks) * prgBankSize + o

/-- Offset in the PRG data of byte `o` of 8 KiB unit `b`: `Prg8(b)[o]` (R456). -/
def prg8 (c : Cart) (b o : Nat) : Nat := (b % (2 * c.prgBanks)) * prgUnitSize + o

/-- NROM bank view, CPU side (R463). -/
def nromPrgOffset (c : Cart) (a : Addr) : Nat := prg16 c ((a.toNat / 16384) % 2) (a.toNat % 16384)

/-- SxROM bank view, CPU side (R473, R480). -/
def sxPrgOffset (c : Cart) (m : SxRegs) (a : Addr) : Nat :=
  let b := m.prg.toNat % 16
  let high := (a.toNat / 16384) % 2
  let o := a.toNat % 16384
  let mode := (m.control.toNat / 4) % 4
  if mode = 3 then (if high = 0 then prg16 c b o else prg16 c (c.prgBanks - 1) o)
  else if mode = 2 then (if high = 0 then prg16 c 0 o else prg16 c b o)
  else prg16 c (b / 2 * 2 + high) o

/-- The 8 KiB PRG unit of TxROM window `(addr >> 13) & 3` (R493). -/
def txPrgUnit (c : Cart) (m : TxRegs) (window : Nat) : Nat :=
  let last := 2 * c.prgBanks - 1
  let r6 := (Memory.read m.r 6).toNat
  let swapped := m.select.getLsbD 6
  match window with
  | 0 => if swapped then last - 1 else r6
  | 1 => (Memory.read m.r 7).toNat
  | 2 => if swapped then r6 else last - 1
  | _ => last

/-- TxROM bank view, CPU side (R500). -/
def txPrgOffset (c : Cart) (m : TxRegs) (a : Addr) : Nat :=
  prg8 c (txPrgUnit c m ((a.toNat / 8192) % 4)) (a.toNat % 8192)

/-- Where in the PRG data a CPU address of `$8000-$FFFF` reads (R463, R480, R500). -/
def prgOffset (s : State) (a : Addr) : Nat :=
  match s.mapper with
  | .nrom => nromPrgOffset s.cfg.cart a
  | .sxrom m => sxPrgOffset s.cfg.cart m a
  | .txrom m => txPrgOffset s.cfg.cart m a

/-- `PrgByte(addr)` (R463, R480, R500). -/
def prgByte (s : State) (a : Addr) : Byte := Memory.read s.cfg.cart.prg (prgOffset s a)

/-- SxROM bank view, PPU side (R474, R481): the offset before the modulo of R456. -/
def sxChrOffset (m : SxRegs) (a : Addr) : Nat :=
  if m.control.getLsbD 4 then
    (if a.toNat < 0x1000 then m.chr0.toNat else m.chr1.toNat) * 4096 + a.toNat % 4096
  else (m.chr0.toNat / 2) * 8192 + a.toNat

/-- The 1 KiB CHR bank of TxROM window `a >> 10` (R494). -/
def txChrBank (m : TxRegs) (window : Nat) : Nat :=
  let r := fun i => (Memory.read m.r i).toNat
  let window := if m.select.getLsbD 7 then (window + 4) % 8 else window
  match window with
  | 0 => r 0 / 2 * 2
  | 1 => r 0 / 2 * 2 + 1
  | 2 => r 1 / 2 * 2
  | 3 => r 1 / 2 * 2 + 1
  | 4 => r 2
  | 5 => r 3
  | 6 => r 4
  | _ => r 5

/-- TxROM bank view, PPU side (R501). -/
def txChrOffset (m : TxRegs) (a : Addr) : Nat := txChrBank m (a.toNat / 1024) * 1024 + a.toNat % 1024

/-- Where in the CHR data a PPU address of `$0000-$1FFF` lies (R464, R481, R501), reduced as R456 says: `C8` banks of 8 KiB. -/
def chrOffset (s : State) (a : Addr) : Nat :=
  let o := match s.mapper with
    | .nrom => a.toNat
    | .sxrom m => sxChrOffset m a
    | .txrom m => txChrOffset m a
  o % (chrBankSize * max s.cfg.cart.chrBanks 1)

/-- `MapperPpuRead(a)` (R464, R481, R501): CHR ROM, or CHR RAM when the cartridge has no CHR bank (R457). It never misses. -/
def mapperPpuRead (a : Addr) (s : State) : Option Byte :=
  some (Memory.read (if s.cfg.cart.chrBanks = 0 then s.chrRam else s.cfg.cart.chr) (chrOffset s a))

/-- `MapperPpuWrite(a, v)` (R464, R481, R501): stores into CHR RAM, changes nothing where CHR is ROM (R457). -/
def mapperPpuWrite (a : Addr) (v : Byte) (s : State) : State :=
  if s.cfg.cart.chrBanks = 0 then { s with chrRam := Memory.write s.chrRam (chrOffset s a) v } else s

/-- The mirroring mode of SxROM's control bits 1:0 (R472). -/
def sxMirroring (control : BitVec 5) : Mirroring :=
  match control.toNat % 4 with
  | 0 => .singleLow
  | 1 => .singleHigh
  | 2 => .vertical
  | _ => .horizontal

/-- A mapper's mirroring control, which a four-screen header overrides (R472, R503). -/
def setMirroring (mode : Mirroring) (s : State) : State :=
  if s.cfg.cart.mirroring = .fourScreen then s else { s with mirroring := mode }

/-- The shift register after one more bit: the first bit written ends in bit 0 (R471). -/
def sxShiftIn (shift : BitVec 5) (d : Byte) : BitVec 5 := (shift >>> 1) ||| ((d.setWidth 5 &&& 1#5) <<< 4)

/-- The fifth serial write latches `value` into the register its address selects (R471). -/
def sxLatch (m : SxRegs) (a : Addr) (value : BitVec 5) (s : State) : State :=
  let m := { m with shift := 0, count := 0 }
  match (a.toNat / 8192) % 4 with
  | 0 => setMirroring (sxMirroring value) { s with mapper := .sxrom { m with control := value } }
  | 1 => { s with mapper := .sxrom { m with chr0 := value } }
  | 2 => { s with mapper := .sxrom { m with chr1 := value } }
  | _ => { s with mapper := .sxrom { m with prg := value } }

/-- `SxWrite(addr, d)` (R471). -/
def sxWrite (m : SxRegs) (a : Addr) (d : Byte) (s : State) : State :=
  if d.getLsbD 7 then
    { s with mapper := .sxrom { m with shift := 0, count := 0, control := m.control ||| 0x0C#5 } }
  else
    let shift := sxShiftIn m.shift d
    if m.count + 1 = 5 then sxLatch m a shift s
    else { s with mapper := .sxrom { m with shift := shift, count := m.count + 1 } }

/-- `TxWrite(addr, d)` (R490): one of eight registers by address bits 14, 13 and 0. -/
def txWrite (m : TxRegs) (a : Addr) (d : Byte) (s : State) : State :=
  match (a.toNat / 8192) % 4, a.getLsbD 0 with
  | 0, false => { s with mapper := .txrom { m with select := d } }
  | 0, true => { s with mapper := .txrom { m with r := Memory.write m.r (m.select.toNat % 8) d } }
  | 1, false => setMirroring (if d.getLsbD 0 then .horizontal else .vertical) s
  | 1, true => { s with mapper := .txrom { m with ramProtect := d } }
  | 2, false => { s with mapper := .txrom { m with irqLatch := d } }
  | 2, true => { s with mapper := .txrom { m with irqReload := true } }
  | _, false => { s with mapper := .txrom { m with irqEnable := false } }
  | _, true => { s with mapper := .txrom { m with irqEnable := true } }

/-- `MapperCpuRead(addr)` (R460, R462), `none` for a miss. -/
def mapperCpuRead (a : Addr) (s : State) : Option Byte :=
  if a < 0x6000#16 then none
  else if a < 0x8000#16 then some (Memory.read s.wram (a.toNat - 0x6000))
  else some (prgByte s a)

/-- `MapperCpuWrite(addr, v)` (R461, R462). A miss, and a write to NROM's ROM, change nothing. -/
def mapperCpuWrite (a : Addr) (v : Byte) (s : State) : State :=
  if a < 0x6000#16 then s
  else if a < 0x8000#16 then { s with wram := Memory.write s.wram (a.toNat - 0x6000) v }
  else
    match s.mapper with
    | .nrom => s
    | .sxrom m => sxWrite m a v s
    | .txrom m => txWrite m a v s

/-- The mapper of a cartridge after reset (10_state.md R68). -/
def mapperReset : MapperKind → Mapper
  | .nrom => .nrom
  | .sxrom => .sxrom SxRegs.reset
  | .txrom => .txrom TxRegs.reset

/-- Which kind a mapper is (R450). -/
def mapperKind : Mapper → MapperKind
  | .nrom => .nrom
  | .sxrom _ => .sxrom
  | .txrom _ => .txrom

/-- The CPU side of the bank-view table (10_state.md R53): windows of `(base address, size, offset in the PRG data)`. -/
def prgView (s : State) : List (Nat × Nat × Nat) :=
  match s.mapper with
  | .nrom | .sxrom _ => [0x8000, 0xC000].map fun b => (b, 0x4000, prgOffset s (BitVec.ofNat 16 b))
  | .txrom _ => [0x8000, 0xA000, 0xC000, 0xE000].map fun b => (b, 0x2000, prgOffset s (BitVec.ofNat 16 b))

/-- The PPU side of the bank-view table (10_state.md R53): windows of `(base address, size, offset in the CHR data)`. -/
def chrView (s : State) : List (Nat × Nat × Nat) :=
  match s.mapper with
  | .nrom => [(0, 0x2000, chrOffset s 0#16)]
  | .sxrom _ => [0, 0x1000].map fun b => (b, 0x1000, chrOffset s (BitVec.ofNat 16 b))
  | .txrom _ => [0, 0x400, 0x800, 0xC00, 0x1000, 0x1400, 0x1800, 0x1C00].map
      fun b => (b, 0x400, chrOffset s (BitVec.ofNat 16 b))

end Sys2Proof.Machine
end

