-- ==== Sys2Proof/Machine/PpuBus.lean ====
section
/-! DEFINITION. The PPU address space (20_memory.md R99 to R104): `PpuRead`, `PpuWrite`, nametable mirroring, palette indexing. -/

namespace Sys2Proof.Machine

/-- The physical nametable page of logical table `n` (R102). -/
def nametablePage : Mirroring → Nat → Nat
  | .horizontal, n => n / 2 % 2
  | .vertical, n => n % 2
  | .singleLow, _ => 0
  | .singleHigh, _ => 1
  | .fourScreen, n => n % 4

/-- The physical page and the offset in it of a nametable address: `p` and `o` of `NtCell(a)` (R102). -/
def ntPage (s : State) (a : Addr) : Nat := nametablePage s.mirroring (a.toNat / 1024 % 4)
def ntOffset (a : Addr) : Nat := a.toNat % 1024

/-- Reads `NtCell(a)` (R102). -/
def ntRead (a : Addr) (s : State) : Byte :=
  let p := ntPage s a
  if p < 2 then Memory.read s.ppu.nt (p * 1024 + ntOffset a)
  else Memory.read s.ppu.ntExt ((p - 2) * 1024 + ntOffset a)

/-- Writes `NtCell(a)` (R102). -/
def ntWrite (a : Addr) (v : Byte) (s : State) : State :=
  let p := ntPage s a
  if p < 2 then { s with ppu := { s.ppu with nt := Memory.write s.ppu.nt (p * 1024 + ntOffset a) v } }
  else { s with ppu := { s.ppu with ntExt := Memory.write s.ppu.ntExt ((p - 2) * 1024 + ntOffset a) v } }

/-- `PalIndex(a)` (R103): entries $10, $14, $18, $1C are those of the background. -/
def palIndex (a : Addr) : Nat :=
  let i := a.toNat % 32
  if 16 ≤ i ∧ i % 4 = 0 then i - 16 else i

/-- `PpuRead(addr)` (R100). It has no side effect (52_mappers.md R501). -/
def ppuRead (addr : Addr) (s : State) : Byte :=
  let a := addr &&& 0x3FFF#16
  if a ≤ 0x1FFF#16 then (mapperPpuRead a s).getD busMiss
  else if a ≤ 0x3EFF#16 then ntRead a s
  else (Memory.read s.ppu.palette (palIndex a)).setWidth 8

/-- `PpuWrite(addr, v)` (R101). -/
def ppuWrite (addr : Addr) (v : Byte) (s : State) : State :=
  let a := addr &&& 0x3FFF#16
  if a ≤ 0x1FFF#16 then mapperPpuWrite a v s
  else if a ≤ 0x3EFF#16 then ntWrite a v s
  else { s with ppu := { s.ppu with palette := Memory.write s.ppu.palette (palIndex a) (v.setWidth 6) } }

end Sys2Proof.Machine
end

