-- ==== Sys2Proof/Machine/PpuRegs.lean ====
section
/-! DEFINITION. The eight CPU-visible PPU registers (51_ppu.md R350 to R362). -/

namespace Sys2Proof.Machine

/-- `CtrlWrite(d)` (R352). -/
def ctrlWrite (d : Byte) (s : State) : State :=
  { s with ppu := { s.ppu with ctrl := d, t := blend 0x0C00#15 (d.setWidth 15 <<< 10) s.ppu.t } }

/-- The byte PPUSTATUS shows (R354). -/
def statusByte (p : Ppu) : Byte := (boolByte p.vblank <<< 7) ||| (boolByte p.spr0hit <<< 6) ||| (boolByte p.overflow <<< 5)

/-- `StatusRead()` (R354). -/
def statusRead (s : State) : Byte × State :=
  (statusByte s.ppu, { s with ppu := { s.ppu with vblank := false, w := false } })

/-- `OamDataWrite(d)` (R356). -/
def oamDataWrite (d : Byte) (s : State) : State :=
  { s with ppu := { s.ppu with oam := Memory.write s.ppu.oam s.ppu.oamaddr.toNat d, oamaddr := s.ppu.oamaddr + 1#8 } }

/-- `ScrollWrite(d)` (R357). -/
def scrollWrite (d : Byte) (s : State) : State :=
  if s.ppu.w then
    { s with ppu := { s.ppu with
        t := blend 0x03E0#15 ((d.setWidth 15 >>> 3) <<< 5) (blend 0x7000#15 (d.setWidth 15 <<< 12) s.ppu.t), w := false } }
  else
    { s with ppu := { s.ppu with t := blend 0x001F#15 (d.setWidth 15 >>> 3) s.ppu.t, x := d.setWidth 3, w := true } }

/-- `AddrWrite(d)` (R358). -/
def addrWrite (d : Byte) (s : State) : State :=
  if s.ppu.w then
    let t := blend 0x00FF#15 (d.setWidth 15) s.ppu.t
    { s with ppu := { s.ppu with t := t, v := t, w := false } }
  else
    { s with ppu := { s.ppu with t := blend 0x7F00#15 ((d.setWidth 15 &&& 0x003F#15) <<< 8) s.ppu.t, w := true } }

/-- `Inc()` (R359). -/
def vramInc (s : State) : State :=
  { s with ppu := { s.ppu with v := s.ppu.v + (if s.ppu.ctrl.getLsbD 2 then 32#15 else 1#15) } }

/-- `ppu.v & $3FFF` (R360, R361). -/
def vramAddr (s : State) : Addr := s.ppu.v.setWidth 16 &&& 0x3FFF#16

/-- `DataWrite(d)` (R360). -/
def dataWrite (d : Byte) (s : State) : State := vramInc (ppuWrite (vramAddr s) d s)

/-- `DataRead()` (R361). -/
def dataRead (s : State) : Byte × State :=
  let a := vramAddr s
  if a < 0x3F00#16 then
    (s.ppu.readbuf, vramInc { s with ppu := { s.ppu with readbuf := ppuRead a s } })
  else
    (ppuRead a s, vramInc { s with ppu := { s.ppu with readbuf := ppuRead (a - 0x1000#16) s } })

/-- `PpuRegRead(i)` (R351, R362). -/
def ppuRegRead (i : Nat) (s : State) : Byte × State :=
  match i with
  | 2 => statusRead s
  | 4 => (Memory.read s.ppu.oam s.ppu.oamaddr.toNat, s)
  | 7 => dataRead s
  | _ => (0x00#8, s)

/-- `PpuRegWrite(i, d)` (R351, R353, R355, R362). -/
def ppuRegWrite (i : Nat) (d : Byte) (s : State) : State :=
  match i with
  | 0 => ctrlWrite d s
  | 1 => { s with ppu := { s.ppu with mask := d } }
  | 3 => { s with ppu := { s.ppu with oamaddr := d } }
  | 4 => oamDataWrite d s
  | 5 => scrollWrite d s
  | 6 => addrWrite d s
  | 7 => dataWrite d s
  | _ => s

end Sys2Proof.Machine
end

