-- ==== Sys2Proof/Machine/Ops.lean ====
section
/-! DEFINITION. The CPU bus, the stack, fetching a byte, taking an exception and returning from one (20_memory.md R70 to R84;
30_encoding.md R121; 60_exceptions.md R530 to R535). -/

namespace Sys2Proof.Machine

/-- `MemRead(addr)` (20_memory.md R72): the byte, and the state after the read's side effects (R87). -/
def memRead (a : Addr) (s : State) : Byte × State :=
  if a ≤ 0x1FFF#16 then (Memory.read s.ram (a.toNat % 2048), s)
  else if a ≤ 0x3FFF#16 then ppuRegRead (a.toNat % 8) s
  else if a = 0x4015#16 then (apuRead, s)
  else if a = 0x4016#16 then padRead s
  else if a = 0x4017#16 then (0x00#8, s)
  else if a ≤ 0x401F#16 then (busMiss, s)
  else ((mapperCpuRead a s).getD busMiss, s)

/-- The byte a read of an address would give, with no side effect: the host's view (50_bus_devices.md R345, 60_exceptions.md R556). -/
def peek (a : Addr) (s : State) : Byte := (memRead a s).1

/-- `MemWrite(addr, v)` (20_memory.md R73). -/
def memWrite (a : Addr) (v : Byte) (s : State) : State :=
  if a ≤ 0x1FFF#16 then { s with ram := Memory.write s.ram (a.toNat % 2048) v }
  else if a ≤ 0x3FFF#16 then ppuRegWrite (a.toNat % 8) v s
  else if a = 0x4014#16 then dmaStart v s
  else if a = 0x4016#16 then padWrite v s
  else if a ≤ 0x4017#16 then apuWrite a v s
  else if a ≤ 0x401F#16 then s
  else mapperCpuWrite a v s

/-- `Read16(addr)` (20_memory.md R80): low byte first, the second address modulo 65536. -/
def read16 (a : Addr) (s : State) : Addr × State :=
  let r := memRead a s
  let q := memRead (a + 1#16) r.2
  (join q.1 r.1, q.2)

/-- `Fetch8()` (30_encoding.md R121). -/
def fetch8 (s : State) : Byte × State :=
  let r := memRead s.pc s
  (r.1, { r.2 with pc := r.2.pc + 1#16 })

/-- The address of the stack slot `S` names: `$0100 | S` (10_state.md R21, 20_memory.md R84). -/
def stackAddr (sp : Byte) : Addr := 0x0100#16 ||| zext16 sp

/-- `Push(v)` (20_memory.md R82). -/
def push (v : Byte) (s : State) : State :=
  let s' := memWrite (stackAddr s.s) v s
  { s' with s := s'.s - 1#8 }

/-- `Pull()` (20_memory.md R83). -/
def pull (s : State) : Byte × State :=
  memRead (stackAddr (s.s + 1#8)) { s with s := s.s + 1#8 }

/-- Pushes a 16-bit value, high byte first (43_control_flow.md R211, R222; 60_exceptions.md R530). -/
def push16 (w : Addr) (s : State) : State := push (lo w) (push (hi w) s)

/-- Pulls a 16-bit value, low byte first (43_control_flow.md R212, R223). -/
def pull16 (s : State) : Addr × State :=
  let l := pull s
  let h := pull l.2
  (join h.1 l.1, h.2)

/-- TAKING AN EXCEPTION, shared by NMI, IRQ and BRK (60_exceptions.md R530, R532): push `PC` and the given status byte, leave `P` as
`after` makes it with `I` set, load `PC` from the vector. -/
def takeException (vec : Addr) (pushed : Byte) (after : Byte → Byte) (s : State) : State :=
  let s1 := push pushed (push16 s.pc s)
  let s2 := setFlag flagI true { s1 with p := after s1.p }
  let r := read16 vec s2
  { r.2 with pc := r.1 }

/-- `InterruptEntry(vec)` (60_exceptions.md R530): the pushed status has B clear, and D is cleared. -/
def interruptEntry (vec : Addr) (s : State) : State :=
  takeException vec (pushedWithoutB s.p) (putFlag flagD false) s

/-- BRK's entry (43_control_flow.md R222, 60_exceptions.md R532): the padding byte is skipped, the pushed status has B set, D is left. -/
def breakEntry (s : State) : State :=
  let s1 := { s with pc := s.pc + 1#16 }
  takeException irqVector (pushedWithB s1.p) id s1

/-- RETURNING FROM AN EXCEPTION (43_control_flow.md R223, 60_exceptions.md R535): pull the status, then `PC`, no increment. -/
def returnFromException (s : State) : State :=
  let m := pull s
  let r := pull16 { m.2 with p := pulledStatus m.1 }
  { r.2 with pc := r.1 }

/-- Ends an instruction that consumes `n` cycles: `idle <- n - 1` (10_state.md R37). -/
def retire (n : Nat) (s : State) : State := { s with idle := n - 1 }

end Sys2Proof.Machine
end

