-- ==== Sys2Proof/Machine/Operands.lean ====
section
/-! DEFINITION. The addressing modes (30_encoding.md R125 to R133), the access classes (R134) and the cycle rules (R135 to R137). Every
operation here starts with `PC` past the instruction's bytes (40_load_store_transfer.md R160, log 8). -/

namespace Sys2Proof.Machine

/-- The modes that name a data address (R127, R128, R132, R133), each with its operand. -/
inductive AddrMode where
  | zp (nn : Byte)
  | zpx (nn : Byte)
  | zpy (nn : Byte)
  | abs (w : Addr)
  | abx (w : Addr)
  | aby (w : Addr)
  | izx (nn : Byte)
  | izy (nn : Byte)
  deriving DecidableEq, Repr

/-- The operand of a read-class instruction: an immediate (R126) or the byte at a data address. -/
inductive Source where
  | imm (v : Byte)
  | mem (m : AddrMode)
  deriving DecidableEq, Repr

/-- A pointer in page zero: both bytes from page zero, the second address wrapping inside it (R132, R133). Page zero is RAM, whose
reads have no side effect (20_memory.md R87). -/
def zpPointer (z : Byte) (s : State) : Addr := join (peek (zext16 (z + 1#8)) s) (peek (zext16 z) s)

/-- The effective address of a data mode. -/
def effAddr (m : AddrMode) (s : State) : Addr :=
  match m with
  | .zp nn => zext16 nn
  | .zpx nn => zext16 (nn + s.x)
  | .zpy nn => zext16 (nn + s.y)
  | .abs w => w
  | .abx w => w + zext16 s.x
  | .aby w => w + zext16 s.y
  | .izx nn => zpPointer (nn + s.x) s
  | .izy nn => zpPointer nn s + zext16 s.y

/-- Whether the indexed sum of a data mode left its page: `crossed` (R127, R128, R132, R133). -/
def pageCrossed (m : AddrMode) (s : State) : Bool :=
  match m with
  | .abx w => page (w + zext16 s.x) != page w
  | .aby w => page (w + zext16 s.y) != page w
  | .izy nn => page (zpPointer nn s + zext16 s.y) != page (zpPointer nn s)
  | .zp _ | .zpx _ | .zpy _ | .abs _ | .izx _ => false

/-- The operand byte `M` and the state after reading it once (40_load_store_transfer.md R160). -/
def readSource (o : Source) (s : State) : Byte × State :=
  match o with
  | .imm v => (v, s)
  | .mem m => memRead (effAddr m s) s

/-- The page-cross cycle of a read-class instruction whose opcode is marked `+` (R136). -/
def crossPenalty (marked : Bool) (o : Source) (s : State) : Nat :=
  match o with
  | .imm _ => 0
  | .mem m => if marked && pageCrossed m s then 1 else 0

/-- A read-class instruction (R134): read `M` once, then `f M`. -/
def readClass (base : Nat) (marked : Bool) (o : Source) (f : Byte → State → State) (s : State) : State :=
  let r := readSource o s
  retire (base + crossPenalty marked o s) (f r.1 r.2)

/-- A write-class instruction (R134): store the byte at the effective address, nothing read there. -/
def writeClass (base : Nat) (m : AddrMode) (v : Byte) (s : State) : State :=
  retire base (memWrite (effAddr m s) v s)

/-- A read-modify-write instruction on memory (R134): one read, one write of `f M`, then `g M M'` on the registers and flags. -/
def rmwClass (base : Nat) (m : AddrMode) (f : Byte → State → Byte) (g : Byte → Byte → State → State) (s : State) : State :=
  let a := effAddr m s
  let r := memRead a s
  let v := f r.1 r.2
  retire base (g r.1 v (memWrite a v r.2))

/-- A shift or rotate of the accumulator (R125, 42_shift_rotate.md): operand and result in `A`. -/
def accClass (base : Nat) (f : Byte → State → Byte) (g : Byte → Byte → State → State) (s : State) : State :=
  let v := f s.a s
  retire base (g s.a v { s with a := v })

/-- A branch's target: the address of the next instruction plus the displacement (R129). -/
def branchTarget (d : Byte) (s : State) : Addr := s.pc + sext16 d

/-- A branch (43_control_flow.md R213): 2 cycles not taken, 3 taken, 4 taken to another page (R137). -/
def branch (cond : Bool) (d : Byte) (s : State) : State :=
  let target := branchTarget d s
  if cond then retire (if page target != page s.pc then 4 else 3) { s with pc := target }
  else retire 2 s

/-- The pointer of `JMP ($nnnn)` (R131): the high byte comes from the same page. -/
def indirectTarget (w : Addr) (s : State) : Addr × State :=
  let l := memRead w s
  let h := memRead (page w ||| ((w + 1#16) &&& 0x00FF#16)) l.2
  (join h.1 l.1, h.2)

end Sys2Proof.Machine
end

