-- ==== Sys2Proof/Machine/ArithLogic.lean ====
section
/-! DEFINITION. Arithmetic, logic, compare, increment and decrement (41_arith_logic.md R180 to R194). -/

namespace Sys2Proof.Machine

/-- ADC (R180): binary whatever `P.D` holds. -/
def adc (m : Byte) (s : State) : State := addWithCarry m (carryIn s.p) s

/-- SBC (R181). -/
def sbc (m : Byte) (s : State) : State := subWithBorrow m s

/-- AND: `A <- A & M; SetZN(A)` (R182). -/
def and (m : Byte) (s : State) : State := setZN (s.a &&& m) { s with a := s.a &&& m }

/-- ORA: `A <- A | M; SetZN(A)` (R183). -/
def ora (m : Byte) (s : State) : State := setZN (s.a ||| m) { s with a := s.a ||| m }

/-- EOR: `A <- A ^ M; SetZN(A)` (R184). -/
def eor (m : Byte) (s : State) : State := setZN (s.a ^^^ m) { s with a := s.a ^^^ m }

/-- CMP (R185). -/
def cmp (m : Byte) (s : State) : State := compare s.a m s

/-- CPX (R186). -/
def cpx (m : Byte) (s : State) : State := compare s.x m s

/-- CPY (R187). -/
def cpy (m : Byte) (s : State) : State := compare s.y m s

/-- BIT (R188). -/
def bit (m : Byte) (s : State) : State := bitTest m s

/-- INC's byte `M + 1`, and its flags `SetZN(M')` (R189). -/
def incByte (m : Byte) (_ : State) : Byte := m + 1#8
def incAfter (_ r : Byte) (s : State) : State := setZN r s

/-- DEC's byte `M - 1`, and its flags `SetZN(M')` (R190). -/
def decByte (m : Byte) (_ : State) : Byte := m - 1#8
def decAfter (_ r : Byte) (s : State) : State := setZN r s

/-- INX: `X <- X + 1; SetZN(X)` (R191). -/
def inx (s : State) : State := setZN (s.x + 1#8) { s with x := s.x + 1#8 }

/-- INY: `Y <- Y + 1; SetZN(Y)` (R192). -/
def iny (s : State) : State := setZN (s.y + 1#8) { s with y := s.y + 1#8 }

/-- DEX: `X <- X - 1; SetZN(X)` (R193). -/
def dex (s : State) : State := setZN (s.x - 1#8) { s with x := s.x - 1#8 }

/-- DEY: `Y <- Y - 1; SetZN(Y)` (R194). -/
def dey (s : State) : State := setZN (s.y - 1#8) { s with y := s.y - 1#8 }

/-- ADC ($nn,X), `$61` (R180). -/
def execAdcIzx (nn : Byte) (s : State) : Result := .next (readClass 6 false (.mem (.izx nn)) adc s)
/-- ADC $nn, `$65` (R180). -/
def execAdcZp (nn : Byte) (s : State) : Result := .next (readClass 3 false (.mem (.zp nn)) adc s)
/-- ADC #$nn, `$69` (R180). -/
def execAdcImm (nn : Byte) (s : State) : Result := .next (readClass 2 false (.imm nn) adc s)
/-- ADC $hhll, `$6D` (R180). -/
def execAdcAbs (w : Addr) (s : State) : Result := .next (readClass 4 false (.mem (.abs w)) adc s)
/-- ADC ($nn),Y, `$71` (R180). -/
def execAdcIzy (nn : Byte) (s : State) : Result := .next (readClass 5 true (.mem (.izy nn)) adc s)
/-- ADC $nn,X, `$75` (R180). -/
def execAdcZpx (nn : Byte) (s : State) : Result := .next (readClass 4 false (.mem (.zpx nn)) adc s)
/-- ADC $hhll,Y, `$79` (R180). -/
def execAdcAby (w : Addr) (s : State) : Result := .next (readClass 4 true (.mem (.aby w)) adc s)
/-- ADC $hhll,X, `$7D` (R180). -/
def execAdcAbx (w : Addr) (s : State) : Result := .next (readClass 4 true (.mem (.abx w)) adc s)

/-- SBC ($nn,X), `$E1` (R181). -/
def execSbcIzx (nn : Byte) (s : State) : Result := .next (readClass 6 false (.mem (.izx nn)) sbc s)
/-- SBC $nn, `$E5` (R181). -/
def execSbcZp (nn : Byte) (s : State) : Result := .next (readClass 3 false (.mem (.zp nn)) sbc s)
/-- SBC #$nn, `$E9` (R181). -/
def execSbcImm (nn : Byte) (s : State) : Result := .next (readClass 2 false (.imm nn) sbc s)
/-- SBC $hhll, `$ED` (R181). -/
def execSbcAbs (w : Addr) (s : State) : Result := .next (readClass 4 false (.mem (.abs w)) sbc s)
/-- SBC ($nn),Y, `$F1` (R181). -/
def execSbcIzy (nn : Byte) (s : State) : Result := .next (readClass 5 true (.mem (.izy nn)) sbc s)
/-- SBC $nn,X, `$F5` (R181). -/
def execSbcZpx (nn : Byte) (s : State) : Result := .next (readClass 4 false (.mem (.zpx nn)) sbc s)
/-- SBC $hhll,Y, `$F9` (R181). -/
def execSbcAby (w : Addr) (s : State) : Result := .next (readClass 4 true (.mem (.aby w)) sbc s)
/-- SBC $hhll,X, `$FD` (R181). -/
def execSbcAbx (w : Addr) (s : State) : Result := .next (readClass 4 true (.mem (.abx w)) sbc s)

/-- AND ($nn,X), `$21` (R182). -/
def execAndIzx (nn : Byte) (s : State) : Result := .next (readClass 6 false (.mem (.izx nn)) and s)
/-- AND $nn, `$25` (R182). -/
def execAndZp (nn : Byte) (s : State) : Result := .next (readClass 3 false (.mem (.zp nn)) and s)
/-- AND #$nn, `$29` (R182). -/
def execAndImm (nn : Byte) (s : State) : Result := .next (readClass 2 false (.imm nn) and s)
/-- AND $hhll, `$2D` (R182). -/
def execAndAbs (w : Addr) (s : State) : Result := .next (readClass 4 false (.mem (.abs w)) and s)
/-- AND ($nn),Y, `$31` (R182). -/
def execAndIzy (nn : Byte) (s : State) : Result := .next (readClass 5 true (.mem (.izy nn)) and s)
/-- AND $nn,X, `$35` (R182). -/
def execAndZpx (nn : Byte) (s : State) : Result := .next (readClass 4 false (.mem (.zpx nn)) and s)
/-- AND $hhll,Y, `$39` (R182). -/
def execAndAby (w : Addr) (s : State) : Result := .next (readClass 4 true (.mem (.aby w)) and s)
/-- AND $hhll,X, `$3D` (R182). -/
def execAndAbx (w : Addr) (s : State) : Result := .next (readClass 4 true (.mem (.abx w)) and s)

/-- ORA ($nn,X), `$01` (R183). -/
def execOraIzx (nn : Byte) (s : State) : Result := .next (readClass 6 false (.mem (.izx nn)) ora s)
/-- ORA $nn, `$05` (R183). -/
def execOraZp (nn : Byte) (s : State) : Result := .next (readClass 3 false (.mem (.zp nn)) ora s)
/-- ORA #$nn, `$09` (R183). -/
def execOraImm (nn : Byte) (s : State) : Result := .next (readClass 2 false (.imm nn) ora s)
/-- ORA $hhll, `$0D` (R183). -/
def execOraAbs (w : Addr) (s : State) : Result := .next (readClass 4 false (.mem (.abs w)) ora s)
/-- ORA ($nn),Y, `$11` (R183). -/
def execOraIzy (nn : Byte) (s : State) : Result := .next (readClass 5 true (.mem (.izy nn)) ora s)
/-- ORA $nn,X, `$15` (R183). -/
def execOraZpx (nn : Byte) (s : State) : Result := .next (readClass 4 false (.mem (.zpx nn)) ora s)
/-- ORA $hhll,Y, `$19` (R183). -/
def execOraAby (w : Addr) (s : State) : Result := .next (readClass 4 true (.mem (.aby w)) ora s)
/-- ORA $hhll,X, `$1D` (R183). -/
def execOraAbx (w : Addr) (s : State) : Result := .next (readClass 4 true (.mem (.abx w)) ora s)

/-- EOR ($nn,X), `$41` (R184). -/
def execEorIzx (nn : Byte) (s : State) : Result := .next (readClass 6 false (.mem (.izx nn)) eor s)
/-- EOR $nn, `$45` (R184). -/
def execEorZp (nn : Byte) (s : State) : Result := .next (readClass 3 false (.mem (.zp nn)) eor s)
/-- EOR #$nn, `$49` (R184). -/
def execEorImm (nn : Byte) (s : State) : Result := .next (readClass 2 false (.imm nn) eor s)
/-- EOR $hhll, `$4D` (R184). -/
def execEorAbs (w : Addr) (s : State) : Result := .next (readClass 4 false (.mem (.abs w)) eor s)
/-- EOR ($nn),Y, `$51` (R184). -/
def execEorIzy (nn : Byte) (s : State) : Result := .next (readClass 5 true (.mem (.izy nn)) eor s)
/-- EOR $nn,X, `$55` (R184). -/
def execEorZpx (nn : Byte) (s : State) : Result := .next (readClass 4 false (.mem (.zpx nn)) eor s)
/-- EOR $hhll,Y, `$59` (R184). -/
def execEorAby (w : Addr) (s : State) : Result := .next (readClass 4 true (.mem (.aby w)) eor s)
/-- EOR $hhll,X, `$5D` (R184). -/
def execEorAbx (w : Addr) (s : State) : Result := .next (readClass 4 true (.mem (.abx w)) eor s)

/-- CMP ($nn,X), `$C1` (R185). -/
def execCmpIzx (nn : Byte) (s : State) : Result := .next (readClass 6 false (.mem (.izx nn)) cmp s)
/-- CMP $nn, `$C5` (R185). -/
def execCmpZp (nn : Byte) (s : State) : Result := .next (readClass 3 false (.mem (.zp nn)) cmp s)
/-- CMP #$nn, `$C9` (R185). -/
def execCmpImm (nn : Byte) (s : State) : Result := .next (readClass 2 false (.imm nn) cmp s)
/-- CMP $hhll, `$CD` (R185). -/
def execCmpAbs (w : Addr) (s : State) : Result := .next (readClass 4 false (.mem (.abs w)) cmp s)
/-- CMP ($nn),Y, `$D1` (R185). -/
def execCmpIzy (nn : Byte) (s : State) : Result := .next (readClass 5 true (.mem (.izy nn)) cmp s)
/-- CMP $nn,X, `$D5` (R185). -/
def execCmpZpx (nn : Byte) (s : State) : Result := .next (readClass 4 false (.mem (.zpx nn)) cmp s)
/-- CMP $hhll,Y, `$D9` (R185). -/
def execCmpAby (w : Addr) (s : State) : Result := .next (readClass 4 true (.mem (.aby w)) cmp s)
/-- CMP $hhll,X, `$DD` (R185). -/
def execCmpAbx (w : Addr) (s : State) : Result := .next (readClass 4 true (.mem (.abx w)) cmp s)

/-- CPX #$nn, `$E0` (R186). -/
def execCpxImm (nn : Byte) (s : State) : Result := .next (readClass 2 false (.imm nn) cpx s)
/-- CPX $nn, `$E4` (R186). -/
def execCpxZp (nn : Byte) (s : State) : Result := .next (readClass 3 false (.mem (.zp nn)) cpx s)
/-- CPX $hhll, `$EC` (R186). -/
def execCpxAbs (w : Addr) (s : State) : Result := .next (readClass 4 false (.mem (.abs w)) cpx s)

/-- CPY #$nn, `$C0` (R187). -/
def execCpyImm (nn : Byte) (s : State) : Result := .next (readClass 2 false (.imm nn) cpy s)
/-- CPY $nn, `$C4` (R187). -/
def execCpyZp (nn : Byte) (s : State) : Result := .next (readClass 3 false (.mem (.zp nn)) cpy s)
/-- CPY $hhll, `$CC` (R187). -/
def execCpyAbs (w : Addr) (s : State) : Result := .next (readClass 4 false (.mem (.abs w)) cpy s)

/-- BIT $nn, `$24` (R188). -/
def execBitZp (nn : Byte) (s : State) : Result := .next (readClass 3 false (.mem (.zp nn)) bit s)
/-- BIT $hhll, `$2C` (R188). -/
def execBitAbs (w : Addr) (s : State) : Result := .next (readClass 4 false (.mem (.abs w)) bit s)

/-- INC $nn, `$E6` (R189). -/
def execIncZp (nn : Byte) (s : State) : Result := .next (rmwClass 5 (.zp nn) incByte incAfter s)
/-- INC $hhll, `$EE` (R189). -/
def execIncAbs (w : Addr) (s : State) : Result := .next (rmwClass 6 (.abs w) incByte incAfter s)
/-- INC $nn,X, `$F6` (R189). -/
def execIncZpx (nn : Byte) (s : State) : Result := .next (rmwClass 6 (.zpx nn) incByte incAfter s)
/-- INC $hhll,X, `$FE` (R189). -/
def execIncAbx (w : Addr) (s : State) : Result := .next (rmwClass 7 (.abx w) incByte incAfter s)

/-- DEC $nn, `$C6` (R190). -/
def execDecZp (nn : Byte) (s : State) : Result := .next (rmwClass 5 (.zp nn) decByte decAfter s)
/-- DEC $hhll, `$CE` (R190). -/
def execDecAbs (w : Addr) (s : State) : Result := .next (rmwClass 6 (.abs w) decByte decAfter s)
/-- DEC $nn,X, `$D6` (R190). -/
def execDecZpx (nn : Byte) (s : State) : Result := .next (rmwClass 6 (.zpx nn) decByte decAfter s)
/-- DEC $hhll,X, `$DE` (R190). -/
def execDecAbx (w : Addr) (s : State) : Result := .next (rmwClass 7 (.abx w) decByte decAfter s)

/-- INX, `$E8` (R191). -/
def execInx (s : State) : Result := .next (retire 2 (inx s))

/-- INY, `$C8` (R192). -/
def execIny (s : State) : Result := .next (retire 2 (iny s))

/-- DEX, `$CA` (R193). -/
def execDex (s : State) : Result := .next (retire 2 (dex s))

/-- DEY, `$88` (R194). -/
def execDey (s : State) : Result := .next (retire 2 (dey s))

end Sys2Proof.Machine
end

