-- ==== Sys2Proof/Machine/ControlFlow.lean ====
section
/-! DEFINITION. Jumps, calls, returns, branches, BRK, RTI, NOP (43_control_flow.md R210 to R224). -/

namespace Sys2Proof.Machine

/-- JMP: `pc <- addr` (R210). -/
def jump (w : Addr) (s : State) : State := { s with pc := w }

/-- JMP through a pointer (R210, 30_encoding.md R131). -/
def jumpIndirect (w : Addr) (s : State) : State :=
  let r := indirectTarget w s
  { r.2 with pc := r.1 }

/-- JSR: push the address of its last byte, jump (R211). -/
def jsr (w : Addr) (s : State) : State := { push16 (s.pc - 1#16) s with pc := w }

/-- RTS: pull the address, add one (R212). -/
def rts (s : State) : State :=
  let r := pull16 s
  { r.2 with pc := r.1 + 1#16 }

/-- JMP $hhll, `$4C` (R210). -/
def execJmpAbs (w : Addr) (s : State) : Result := .next (retire 3 (jump w s))
/-- JMP ($hhll), `$6C` (R210). -/
def execJmpInd (w : Addr) (s : State) : Result := .next (retire 5 (jumpIndirect w s))

/-- JSR $hhll, `$20` (R211). -/
def execJsr (w : Addr) (s : State) : Result := .next (retire 6 (jsr w s))

/-- RTS, `$60` (R212). -/
def execRts (s : State) : Result := .next (retire 6 (rts s))

/-- BCC $nn (displacement), `$90` (R214). -/
def execBcc (nn : Byte) (s : State) : Result := .next (branch (!hasFlag flagC s.p) nn s)

/-- BCS $nn (displacement), `$B0` (R215). -/
def execBcs (nn : Byte) (s : State) : Result := .next (branch (hasFlag flagC s.p) nn s)

/-- BEQ $nn (displacement), `$F0` (R216). -/
def execBeq (nn : Byte) (s : State) : Result := .next (branch (hasFlag flagZ s.p) nn s)

/-- BNE $nn (displacement), `$D0` (R217). -/
def execBne (nn : Byte) (s : State) : Result := .next (branch (!hasFlag flagZ s.p) nn s)

/-- BMI $nn (displacement), `$30` (R218). -/
def execBmi (nn : Byte) (s : State) : Result := .next (branch (hasFlag flagN s.p) nn s)

/-- BPL $nn (displacement), `$10` (R219). -/
def execBpl (nn : Byte) (s : State) : Result := .next (branch (!hasFlag flagN s.p) nn s)

/-- BVC $nn (displacement), `$50` (R220). -/
def execBvc (nn : Byte) (s : State) : Result := .next (branch (!hasFlag flagV s.p) nn s)

/-- BVS $nn (displacement), `$70` (R221). -/
def execBvs (nn : Byte) (s : State) : Result := .next (branch (hasFlag flagV s.p) nn s)

/-- BRK, `$00` (R222). -/
def execBrk (s : State) : Result := .next (retire 7 (breakEntry s))

/-- RTI, `$40` (R223). -/
def execRti (s : State) : Result := .next (retire 6 (returnFromException s))

/-- NOP, `$EA` (R224). -/
def execNop (s : State) : Result := .next (retire 2 s)

end Sys2Proof.Machine
end

