-- ==== Sys2Proof/Machine/Holes.lean ====
section
/-! DEFINITION. The 53 holes (45_illegal.md R262, 30_encoding.md R150, R151): the opcode byte has been fetched, one cycle, nothing else. -/

namespace Sys2Proof.Machine

/-- Hole, `$02` (R262). -/
def execHole02 (s : State) : Result := .next (retire 1 s)
/-- Hole, `$04` (R262). -/
def execHole04 (s : State) : Result := .next (retire 1 s)
/-- Hole, `$0B` (R262). -/
def execHole0B (s : State) : Result := .next (retire 1 s)
/-- Hole, `$0C` (R262). -/
def execHole0C (s : State) : Result := .next (retire 1 s)
/-- Hole, `$12` (R262). -/
def execHole12 (s : State) : Result := .next (retire 1 s)
/-- Hole, `$14` (R262). -/
def execHole14 (s : State) : Result := .next (retire 1 s)
/-- Hole, `$1A` (R262). -/
def execHole1A (s : State) : Result := .next (retire 1 s)
/-- Hole, `$1C` (R262). -/
def execHole1C (s : State) : Result := .next (retire 1 s)
/-- Hole, `$22` (R262). -/
def execHole22 (s : State) : Result := .next (retire 1 s)
/-- Hole, `$2B` (R262). -/
def execHole2B (s : State) : Result := .next (retire 1 s)
/-- Hole, `$32` (R262). -/
def execHole32 (s : State) : Result := .next (retire 1 s)
/-- Hole, `$34` (R262). -/
def execHole34 (s : State) : Result := .next (retire 1 s)
/-- Hole, `$3A` (R262). -/
def execHole3A (s : State) : Result := .next (retire 1 s)
/-- Hole, `$3C` (R262). -/
def execHole3C (s : State) : Result := .next (retire 1 s)
/-- Hole, `$42` (R262). -/
def execHole42 (s : State) : Result := .next (retire 1 s)
/-- Hole, `$44` (R262). -/
def execHole44 (s : State) : Result := .next (retire 1 s)
/-- Hole, `$4B` (R262). -/
def execHole4B (s : State) : Result := .next (retire 1 s)
/-- Hole, `$52` (R262). -/
def execHole52 (s : State) : Result := .next (retire 1 s)
/-- Hole, `$54` (R262). -/
def execHole54 (s : State) : Result := .next (retire 1 s)
/-- Hole, `$5A` (R262). -/
def execHole5A (s : State) : Result := .next (retire 1 s)
/-- Hole, `$5C` (R262). -/
def execHole5C (s : State) : Result := .next (retire 1 s)
/-- Hole, `$62` (R262). -/
def execHole62 (s : State) : Result := .next (retire 1 s)
/-- Hole, `$64` (R262). -/
def execHole64 (s : State) : Result := .next (retire 1 s)
/-- Hole, `$6B` (R262). -/
def execHole6B (s : State) : Result := .next (retire 1 s)
/-- Hole, `$72` (R262). -/
def execHole72 (s : State) : Result := .next (retire 1 s)
/-- Hole, `$74` (R262). -/
def execHole74 (s : State) : Result := .next (retire 1 s)
/-- Hole, `$7A` (R262). -/
def execHole7A (s : State) : Result := .next (retire 1 s)
/-- Hole, `$7C` (R262). -/
def execHole7C (s : State) : Result := .next (retire 1 s)
/-- Hole, `$80` (R262). -/
def execHole80 (s : State) : Result := .next (retire 1 s)
/-- Hole, `$82` (R262). -/
def execHole82 (s : State) : Result := .next (retire 1 s)
/-- Hole, `$89` (R262). -/
def execHole89 (s : State) : Result := .next (retire 1 s)
/-- Hole, `$8B` (R262). -/
def execHole8B (s : State) : Result := .next (retire 1 s)
/-- Hole, `$92` (R262). -/
def execHole92 (s : State) : Result := .next (retire 1 s)
/-- Hole, `$93` (R262). -/
def execHole93 (s : State) : Result := .next (retire 1 s)
/-- Hole, `$9B` (R262). -/
def execHole9B (s : State) : Result := .next (retire 1 s)
/-- Hole, `$9C` (R262). -/
def execHole9C (s : State) : Result := .next (retire 1 s)
/-- Hole, `$9E` (R262). -/
def execHole9E (s : State) : Result := .next (retire 1 s)
/-- Hole, `$9F` (R262). -/
def execHole9F (s : State) : Result := .next (retire 1 s)
/-- Hole, `$AB` (R262). -/
def execHoleAB (s : State) : Result := .next (retire 1 s)
/-- Hole, `$B2` (R262). -/
def execHoleB2 (s : State) : Result := .next (retire 1 s)
/-- Hole, `$BB` (R262). -/
def execHoleBB (s : State) : Result := .next (retire 1 s)
/-- Hole, `$C2` (R262). -/
def execHoleC2 (s : State) : Result := .next (retire 1 s)
/-- Hole, `$CB` (R262). -/
def execHoleCB (s : State) : Result := .next (retire 1 s)
/-- Hole, `$D2` (R262). -/
def execHoleD2 (s : State) : Result := .next (retire 1 s)
/-- Hole, `$D4` (R262). -/
def execHoleD4 (s : State) : Result := .next (retire 1 s)
/-- Hole, `$DA` (R262). -/
def execHoleDA (s : State) : Result := .next (retire 1 s)
/-- Hole, `$DC` (R262). -/
def execHoleDC (s : State) : Result := .next (retire 1 s)
/-- Hole, `$E2` (R262). -/
def execHoleE2 (s : State) : Result := .next (retire 1 s)
/-- Hole, `$EB` (R262). -/
def execHoleEB (s : State) : Result := .next (retire 1 s)
/-- Hole, `$F2` (R262). -/
def execHoleF2 (s : State) : Result := .next (retire 1 s)
/-- Hole, `$F4` (R262). -/
def execHoleF4 (s : State) : Result := .next (retire 1 s)
/-- Hole, `$FA` (R262). -/
def execHoleFA (s : State) : Result := .next (retire 1 s)
/-- Hole, `$FC` (R262). -/
def execHoleFC (s : State) : Result := .next (retire 1 s)

end Sys2Proof.Machine
end

