-- ==== Sys2Proof/Machine/LoadStore.lean ====
section
/-! DEFINITION. The loads, stores and register transfers (40_load_store_transfer.md R160 to R172). -/

namespace Sys2Proof.Machine

/-- LDA: `A <- M; SetZN(A)` (R161). -/
def lda (m : Byte) (s : State) : State := setZN m { s with a := m }

/-- LDX: `X <- M; SetZN(X)` (R162). -/
def ldx (m : Byte) (s : State) : State := setZN m { s with x := m }

/-- LDY: `Y <- M; SetZN(Y)` (R163). -/
def ldy (m : Byte) (s : State) : State := setZN m { s with y := m }

/-- TAX: `X <- A; SetZN(X)` (R167). -/
def tax (s : State) : State := setZN s.a { s with x := s.a }

/-- TAY: `Y <- A; SetZN(Y)` (R168). -/
def tay (s : State) : State := setZN s.a { s with y := s.a }

/-- TXA: `A <- X; SetZN(A)` (R169). -/
def txa (s : State) : State := setZN s.x { s with a := s.x }

/-- TYA: `A <- Y; SetZN(A)` (R170). -/
def tya (s : State) : State := setZN s.y { s with a := s.y }

/-- TSX: `X <- S; SetZN(X)` (R171). -/
def tsx (s : State) : State := setZN s.s { s with x := s.s }

/-- TXS: `S <- X`, no flag (R172). -/
def txs (s : State) : State := { s with s := s.x }

/-- LDA ($nn,X), `$A1` (R161). -/
def execLdaIzx (nn : Byte) (s : State) : Result := .next (readClass 6 false (.mem (.izx nn)) lda s)
/-- LDA $nn, `$A5` (R161). -/
def execLdaZp (nn : Byte) (s : State) : Result := .next (readClass 3 false (.mem (.zp nn)) lda s)
/-- LDA #$nn, `$A9` (R161). -/
def execLdaImm (nn : Byte) (s : State) : Result := .next (readClass 2 false (.imm nn) lda s)
/-- LDA $hhll, `$AD` (R161). -/
def execLdaAbs (w : Addr) (s : State) : Result := .next (readClass 4 false (.mem (.abs w)) lda s)
/-- LDA ($nn),Y, `$B1` (R161). -/
def execLdaIzy (nn : Byte) (s : State) : Result := .next (readClass 5 true (.mem (.izy nn)) lda s)
/-- LDA $nn,X, `$B5` (R161). -/
def execLdaZpx (nn : Byte) (s : State) : Result := .next (readClass 4 false (.mem (.zpx nn)) lda s)
/-- LDA $hhll,Y, `$B9` (R161). -/
def execLdaAby (w : Addr) (s : State) : Result := .next (readClass 4 true (.mem (.aby w)) lda s)
/-- LDA $hhll,X, `$BD` (R161). -/
def execLdaAbx (w : Addr) (s : State) : Result := .next (readClass 4 true (.mem (.abx w)) lda s)

/-- LDX #$nn, `$A2` (R162). -/
def execLdxImm (nn : Byte) (s : State) : Result := .next (readClass 2 false (.imm nn) ldx s)
/-- LDX $nn, `$A6` (R162). -/
def execLdxZp (nn : Byte) (s : State) : Result := .next (readClass 3 false (.mem (.zp nn)) ldx s)
/-- LDX $hhll, `$AE` (R162). -/
def execLdxAbs (w : Addr) (s : State) : Result := .next (readClass 4 false (.mem (.abs w)) ldx s)
/-- LDX $nn,Y, `$B6` (R162). -/
def execLdxZpy (nn : Byte) (s : State) : Result := .next (readClass 4 false (.mem (.zpy nn)) ldx s)
/-- LDX $hhll,Y, `$BE` (R162). -/
def execLdxAby (w : Addr) (s : State) : Result := .next (readClass 4 true (.mem (.aby w)) ldx s)

/-- LDY #$nn, `$A0` (R163). -/
def execLdyImm (nn : Byte) (s : State) : Result := .next (readClass 2 false (.imm nn) ldy s)
/-- LDY $nn, `$A4` (R163). -/
def execLdyZp (nn : Byte) (s : State) : Result := .next (readClass 3 false (.mem (.zp nn)) ldy s)
/-- LDY $hhll, `$AC` (R163). -/
def execLdyAbs (w : Addr) (s : State) : Result := .next (readClass 4 false (.mem (.abs w)) ldy s)
/-- LDY $nn,X, `$B4` (R163). -/
def execLdyZpx (nn : Byte) (s : State) : Result := .next (readClass 4 false (.mem (.zpx nn)) ldy s)
/-- LDY $hhll,X, `$BC` (R163). -/
def execLdyAbx (w : Addr) (s : State) : Result := .next (readClass 4 true (.mem (.abx w)) ldy s)

/-- STA ($nn,X), `$81` (R164). -/
def execStaIzx (nn : Byte) (s : State) : Result := .next (writeClass 6 (.izx nn) s.a s)
/-- STA $nn, `$85` (R164). -/
def execStaZp (nn : Byte) (s : State) : Result := .next (writeClass 3 (.zp nn) s.a s)
/-- STA $hhll, `$8D` (R164). -/
def execStaAbs (w : Addr) (s : State) : Result := .next (writeClass 4 (.abs w) s.a s)
/-- STA ($nn),Y, `$91` (R164). -/
def execStaIzy (nn : Byte) (s : State) : Result := .next (writeClass 6 (.izy nn) s.a s)
/-- STA $nn,X, `$95` (R164). -/
def execStaZpx (nn : Byte) (s : State) : Result := .next (writeClass 4 (.zpx nn) s.a s)
/-- STA $hhll,Y, `$99` (R164). -/
def execStaAby (w : Addr) (s : State) : Result := .next (writeClass 5 (.aby w) s.a s)
/-- STA $hhll,X, `$9D` (R164). -/
def execStaAbx (w : Addr) (s : State) : Result := .next (writeClass 5 (.abx w) s.a s)

/-- STX $nn, `$86` (R165). -/
def execStxZp (nn : Byte) (s : State) : Result := .next (writeClass 3 (.zp nn) s.x s)
/-- STX $hhll, `$8E` (R165). -/
def execStxAbs (w : Addr) (s : State) : Result := .next (writeClass 4 (.abs w) s.x s)
/-- STX $nn,Y, `$96` (R165). -/
def execStxZpy (nn : Byte) (s : State) : Result := .next (writeClass 4 (.zpy nn) s.x s)

/-- STY $nn, `$84` (R166). -/
def execStyZp (nn : Byte) (s : State) : Result := .next (writeClass 3 (.zp nn) s.y s)
/-- STY $hhll, `$8C` (R166). -/
def execStyAbs (w : Addr) (s : State) : Result := .next (writeClass 4 (.abs w) s.y s)
/-- STY $nn,X, `$94` (R166). -/
def execStyZpx (nn : Byte) (s : State) : Result := .next (writeClass 4 (.zpx nn) s.y s)

/-- TAX, `$AA` (R167). -/
def execTax (s : State) : Result := .next (retire 2 (tax s))

/-- TAY, `$A8` (R168). -/
def execTay (s : State) : Result := .next (retire 2 (tay s))

/-- TXA, `$8A` (R169). -/
def execTxa (s : State) : Result := .next (retire 2 (txa s))

/-- TYA, `$98` (R170). -/
def execTya (s : State) : Result := .next (retire 2 (tya s))

/-- TSX, `$BA` (R171). -/
def execTsx (s : State) : Result := .next (retire 2 (tsx s))

/-- TXS, `$9A` (R172). -/
def execTxs (s : State) : Result := .next (retire 2 (txs s))

end Sys2Proof.Machine
end

