-- ==== Sys2Proof/Machine/ShiftRotate.lean ====
section
/-! DEFINITION. Shifts and rotates (42_shift_rotate.md R200 to R203). `<op>Byte` is the result from the operand and the old carry, `<op>After` writes C from the operand and Z, N from the result. -/

namespace Sys2Proof.Machine

/-- The carry as a byte, 0 or 1. -/
def carryByte (p : Byte) : Byte := if hasFlag flagC p then 0x01#8 else 0x00#8

/-- ASL (R200): bit 7 to C, 0 into bit 0. -/
def aslByte (m : Byte) (_ : State) : Byte := m <<< 1
def aslAfter (m r : Byte) (s : State) : State := setZN r (setFlag flagC (m.getLsbD 7) s)

/-- LSR (R201): bit 0 to C, 0 into bit 7. -/
def lsrByte (m : Byte) (_ : State) : Byte := m >>> 1
def lsrAfter (m r : Byte) (s : State) : State := setZN r (setFlag flagC (m.getLsbD 0) s)

/-- ROL (R202): bit 7 to C, the old carry into bit 0. -/
def rolByte (m : Byte) (s : State) : Byte := (m <<< 1) ||| carryByte s.p
def rolAfter (m r : Byte) (s : State) : State := setZN r (setFlag flagC (m.getLsbD 7) s)

/-- ROR (R203): bit 0 to C, the old carry into bit 7. -/
def rorByte (m : Byte) (s : State) : Byte := (m >>> 1) ||| (carryByte s.p <<< 7)
def rorAfter (m r : Byte) (s : State) : State := setZN r (setFlag flagC (m.getLsbD 0) s)

/-- ASL $nn, `$06` (R200). -/
def execAslZp (nn : Byte) (s : State) : Result := .next (rmwClass 5 (.zp nn) aslByte aslAfter s)
/-- ASL A, `$0A` (R200). -/
def execAslAcc (s : State) : Result := .next (accClass 2 aslByte aslAfter s)
/-- ASL $hhll, `$0E` (R200). -/
def execAslAbs (w : Addr) (s : State) : Result := .next (rmwClass 6 (.abs w) aslByte aslAfter s)
/-- ASL $nn,X, `$16` (R200). -/
def execAslZpx (nn : Byte) (s : State) : Result := .next (rmwClass 6 (.zpx nn) aslByte aslAfter s)
/-- ASL $hhll,X, `$1E` (R200). -/
def execAslAbx (w : Addr) (s : State) : Result := .next (rmwClass 7 (.abx w) aslByte aslAfter s)

/-- LSR $nn, `$46` (R201). -/
def execLsrZp (nn : Byte) (s : State) : Result := .next (rmwClass 5 (.zp nn) lsrByte lsrAfter s)
/-- LSR A, `$4A` (R201). -/
def execLsrAcc (s : State) : Result := .next (accClass 2 lsrByte lsrAfter s)
/-- LSR $hhll, `$4E` (R201). -/
def execLsrAbs (w : Addr) (s : State) : Result := .next (rmwClass 6 (.abs w) lsrByte lsrAfter s)
/-- LSR $nn,X, `$56` (R201). -/
def execLsrZpx (nn : Byte) (s : State) : Result := .next (rmwClass 6 (.zpx nn) lsrByte lsrAfter s)
/-- LSR $hhll,X, `$5E` (R201). -/
def execLsrAbx (w : Addr) (s : State) : Result := .next (rmwClass 7 (.abx w) lsrByte lsrAfter s)

/-- ROL $nn, `$26` (R202). -/
def execRolZp (nn : Byte) (s : State) : Result := .next (rmwClass 5 (.zp nn) rolByte rolAfter s)
/-- ROL A, `$2A` (R202). -/
def execRolAcc (s : State) : Result := .next (accClass 2 rolByte rolAfter s)
/-- ROL $hhll, `$2E` (R202). -/
def execRolAbs (w : Addr) (s : State) : Result := .next (rmwClass 6 (.abs w) rolByte rolAfter s)
/-- ROL $nn,X, `$36` (R202). -/
def execRolZpx (nn : Byte) (s : State) : Result := .next (rmwClass 6 (.zpx nn) rolByte rolAfter s)
/-- ROL $hhll,X, `$3E` (R202). -/
def execRolAbx (w : Addr) (s : State) : Result := .next (rmwClass 7 (.abx w) rolByte rolAfter s)

/-- ROR $nn, `$66` (R203). -/
def execRorZp (nn : Byte) (s : State) : Result := .next (rmwClass 5 (.zp nn) rorByte rorAfter s)
/-- ROR A, `$6A` (R203). -/
def execRorAcc (s : State) : Result := .next (accClass 2 rorByte rorAfter s)
/-- ROR $hhll, `$6E` (R203). -/
def execRorAbs (w : Addr) (s : State) : Result := .next (rmwClass 6 (.abs w) rorByte rorAfter s)
/-- ROR $nn,X, `$76` (R203). -/
def execRorZpx (nn : Byte) (s : State) : Result := .next (rmwClass 6 (.zpx nn) rorByte rorAfter s)
/-- ROR $hhll,X, `$7E` (R203). -/
def execRorAbx (w : Addr) (s : State) : Result := .next (rmwClass 7 (.abx w) rorByte rorAfter s)

end Sys2Proof.Machine
end

