-- ==== Sys2Proof/Machine/StackFlags.lean ====
section
/-! DEFINITION. Stack and flag instructions (44_stack_flags.md R230 to R240). -/

namespace Sys2Proof.Machine

/-- PHA: `Push(A)` (R230). -/
def pha (s : State) : State := push s.a s

/-- PHP: `Push(P | $30)` (R231). -/
def php (s : State) : State := push (pushedWithB s.p) s

/-- PLA: `A <- Pull(); SetZN(A)` (R232). -/
def pla (s : State) : State :=
  let m := pull s
  setZN m.1 { m.2 with a := m.1 }

/-- PLP: `P` from the pulled byte, bits 5 and 4 ignored (R233). -/
def plp (s : State) : State :=
  let m := pull s
  { m.2 with p := pulledStatus m.1 }

/-- PHA, `$48` (R230). -/
def execPha (s : State) : Result := .next (retire 3 (pha s))

/-- PHP, `$08` (R231). -/
def execPhp (s : State) : Result := .next (retire 3 (php s))

/-- PLA, `$68` (R232). -/
def execPla (s : State) : Result := .next (retire 4 (pla s))

/-- PLP, `$28` (R233). -/
def execPlp (s : State) : Result := .next (retire 4 (plp s))

/-- CLC, `$18` (R234). -/
def execClc (s : State) : Result := .next (retire 2 (setFlag flagC false s))

/-- SEC, `$38` (R235). -/
def execSec (s : State) : Result := .next (retire 2 (setFlag flagC true s))

/-- CLI, `$58` (R236). -/
def execCli (s : State) : Result := .next (retire 2 (setFlag flagI false s))

/-- SEI, `$78` (R237). -/
def execSei (s : State) : Result := .next (retire 2 (setFlag flagI true s))

/-- CLV, `$B8` (R238). -/
def execClv (s : State) : Result := .next (retire 2 (setFlag flagV false s))

/-- CLD, `$D8` (R239). -/
def execCld (s : State) : Result := .next (retire 2 (setFlag flagD false s))

/-- SED, `$F8` (R240). -/
def execSed (s : State) : Result := .next (retire 2 (setFlag flagD true s))

end Sys2Proof.Machine
end

