-- ==== Sys2Proof/Machine/Undocumented.lean ====
section
/-! DEFINITION. The eight undocumented families (45_illegal.md R250 to R258): a memory operation, then a register operation on the new memory byte. -/

namespace Sys2Proof.Machine

/-- LAX: `A <- M; X <- M; SetZN(M)` (R251). -/
def lax (m : Byte) (s : State) : State := setZN m { s with a := m, x := m }

/-- DCP (R253): decrement, then compare with A. -/
def dcpByte (m : Byte) (_ : State) : Byte := m - 1#8
def dcpAfter (_ r : Byte) (s : State) : State := setZN (s.a - r) (setFlag flagC (decide (r ≤ s.a)) s)

/-- ISB (R254): increment, then SBC. -/
def isbByte (m : Byte) (_ : State) : Byte := m + 1#8
def isbAfter (_ r : Byte) (s : State) : State := subWithBorrow r s

/-- SLO (R255): ASL, then ORA. -/
def sloByte (m : Byte) (_ : State) : Byte := m <<< 1
def sloAfter (m r : Byte) (s : State) : State :=
  let s' := setFlag flagC (m.getLsbD 7) s
  setZN (s.a ||| r) { s' with a := s.a ||| r }

/-- RLA (R256): ROL, then AND. -/
def rlaByte (m : Byte) (s : State) : Byte := (m <<< 1) ||| (if hasFlag flagC s.p then 0x01#8 else 0x00#8)
def rlaAfter (m r : Byte) (s : State) : State :=
  let s' := setFlag flagC (m.getLsbD 7) s
  setZN (s.a &&& r) { s' with a := s.a &&& r }

/-- SRE (R257): LSR, then EOR. -/
def sreByte (m : Byte) (_ : State) : Byte := m >>> 1
def sreAfter (m r : Byte) (s : State) : State :=
  let s' := setFlag flagC (m.getLsbD 0) s
  setZN (s.a ^^^ r) { s' with a := s.a ^^^ r }

/-- RRA (R258): ROR, then ADC with the bit rotated out as carry-in. -/
def rraByte (m : Byte) (s : State) : Byte := (m >>> 1) ||| (if hasFlag flagC s.p then 0x80#8 else 0x00#8)
def rraAfter (m r : Byte) (s : State) : State := addWithCarry r (m.getLsbD 0).toNat s

/-- LAX ($nn,X), `$A3` (R251). -/
def execLaxIzx (nn : Byte) (s : State) : Result := .next (readClass 6 false (.mem (.izx nn)) lax s)
/-- LAX $nn, `$A7` (R251). -/
def execLaxZp (nn : Byte) (s : State) : Result := .next (readClass 3 false (.mem (.zp nn)) lax s)
/-- LAX $hhll, `$AF` (R251). -/
def execLaxAbs (w : Addr) (s : State) : Result := .next (readClass 4 false (.mem (.abs w)) lax s)
/-- LAX ($nn),Y, `$B3` (R251). -/
def execLaxIzy (nn : Byte) (s : State) : Result := .next (readClass 5 true (.mem (.izy nn)) lax s)
/-- LAX $nn,Y, `$B7` (R251). -/
def execLaxZpy (nn : Byte) (s : State) : Result := .next (readClass 4 false (.mem (.zpy nn)) lax s)
/-- LAX $hhll,Y, `$BF` (R251). -/
def execLaxAby (w : Addr) (s : State) : Result := .next (readClass 4 true (.mem (.aby w)) lax s)

/-- SAX ($nn,X), `$83` (R252). -/
def execSaxIzx (nn : Byte) (s : State) : Result := .next (writeClass 6 (.izx nn) (s.a &&& s.x) s)
/-- SAX $nn, `$87` (R252). -/
def execSaxZp (nn : Byte) (s : State) : Result := .next (writeClass 3 (.zp nn) (s.a &&& s.x) s)
/-- SAX $hhll, `$8F` (R252). -/
def execSaxAbs (w : Addr) (s : State) : Result := .next (writeClass 4 (.abs w) (s.a &&& s.x) s)
/-- SAX $nn,Y, `$97` (R252). -/
def execSaxZpy (nn : Byte) (s : State) : Result := .next (writeClass 4 (.zpy nn) (s.a &&& s.x) s)

/-- DCP ($nn,X), `$C3` (R253). -/
def execDcpIzx (nn : Byte) (s : State) : Result := .next (rmwClass 8 (.izx nn) dcpByte dcpAfter s)
/-- DCP $nn, `$C7` (R253). -/
def execDcpZp (nn : Byte) (s : State) : Result := .next (rmwClass 5 (.zp nn) dcpByte dcpAfter s)
/-- DCP $hhll, `$CF` (R253). -/
def execDcpAbs (w : Addr) (s : State) : Result := .next (rmwClass 6 (.abs w) dcpByte dcpAfter s)
/-- DCP ($nn),Y, `$D3` (R253). -/
def execDcpIzy (nn : Byte) (s : State) : Result := .next (rmwClass 8 (.izy nn) dcpByte dcpAfter s)
/-- DCP $nn,X, `$D7` (R253). -/
def execDcpZpx (nn : Byte) (s : State) : Result := .next (rmwClass 6 (.zpx nn) dcpByte dcpAfter s)
/-- DCP $hhll,Y, `$DB` (R253). -/
def execDcpAby (w : Addr) (s : State) : Result := .next (rmwClass 7 (.aby w) dcpByte dcpAfter s)
/-- DCP $hhll,X, `$DF` (R253). -/
def execDcpAbx (w : Addr) (s : State) : Result := .next (rmwClass 7 (.abx w) dcpByte dcpAfter s)

/-- ISB ($nn,X), `$E3` (R254). -/
def execIsbIzx (nn : Byte) (s : State) : Result := .next (rmwClass 8 (.izx nn) isbByte isbAfter s)
/-- ISB $nn, `$E7` (R254). -/
def execIsbZp (nn : Byte) (s : State) : Result := .next (rmwClass 5 (.zp nn) isbByte isbAfter s)
/-- ISB $hhll, `$EF` (R254). -/
def execIsbAbs (w : Addr) (s : State) : Result := .next (rmwClass 6 (.abs w) isbByte isbAfter s)
/-- ISB ($nn),Y, `$F3` (R254). -/
def execIsbIzy (nn : Byte) (s : State) : Result := .next (rmwClass 8 (.izy nn) isbByte isbAfter s)
/-- ISB $nn,X, `$F7` (R254). -/
def execIsbZpx (nn : Byte) (s : State) : Result := .next (rmwClass 6 (.zpx nn) isbByte isbAfter s)
/-- ISB $hhll,Y, `$FB` (R254). -/
def execIsbAby (w : Addr) (s : State) : Result := .next (rmwClass 7 (.aby w) isbByte isbAfter s)
/-- ISB $hhll,X, `$FF` (R254). -/
def execIsbAbx (w : Addr) (s : State) : Result := .next (rmwClass 7 (.abx w) isbByte isbAfter s)

/-- SLO ($nn,X), `$03` (R255). -/
def execSloIzx (nn : Byte) (s : State) : Result := .next (rmwClass 8 (.izx nn) sloByte sloAfter s)
/-- SLO $nn, `$07` (R255). -/
def execSloZp (nn : Byte) (s : State) : Result := .next (rmwClass 5 (.zp nn) sloByte sloAfter s)
/-- SLO $hhll, `$0F` (R255). -/
def execSloAbs (w : Addr) (s : State) : Result := .next (rmwClass 6 (.abs w) sloByte sloAfter s)
/-- SLO ($nn),Y, `$13` (R255). -/
def execSloIzy (nn : Byte) (s : State) : Result := .next (rmwClass 8 (.izy nn) sloByte sloAfter s)
/-- SLO $nn,X, `$17` (R255). -/
def execSloZpx (nn : Byte) (s : State) : Result := .next (rmwClass 6 (.zpx nn) sloByte sloAfter s)
/-- SLO $hhll,Y, `$1B` (R255). -/
def execSloAby (w : Addr) (s : State) : Result := .next (rmwClass 7 (.aby w) sloByte sloAfter s)
/-- SLO $hhll,X, `$1F` (R255). -/
def execSloAbx (w : Addr) (s : State) : Result := .next (rmwClass 7 (.abx w) sloByte sloAfter s)

/-- RLA ($nn,X), `$23` (R256). -/
def execRlaIzx (nn : Byte) (s : State) : Result := .next (rmwClass 8 (.izx nn) rlaByte rlaAfter s)
/-- RLA $nn, `$27` (R256). -/
def execRlaZp (nn : Byte) (s : State) : Result := .next (rmwClass 5 (.zp nn) rlaByte rlaAfter s)
/-- RLA $hhll, `$2F` (R256). -/
def execRlaAbs (w : Addr) (s : State) : Result := .next (rmwClass 6 (.abs w) rlaByte rlaAfter s)
/-- RLA ($nn),Y, `$33` (R256). -/
def execRlaIzy (nn : Byte) (s : State) : Result := .next (rmwClass 8 (.izy nn) rlaByte rlaAfter s)
/-- RLA $nn,X, `$37` (R256). -/
def execRlaZpx (nn : Byte) (s : State) : Result := .next (rmwClass 6 (.zpx nn) rlaByte rlaAfter s)
/-- RLA $hhll,Y, `$3B` (R256). -/
def execRlaAby (w : Addr) (s : State) : Result := .next (rmwClass 7 (.aby w) rlaByte rlaAfter s)
/-- RLA $hhll,X, `$3F` (R256). -/
def execRlaAbx (w : Addr) (s : State) : Result := .next (rmwClass 7 (.abx w) rlaByte rlaAfter s)

/-- SRE ($nn,X), `$43` (R257). -/
def execSreIzx (nn : Byte) (s : State) : Result := .next (rmwClass 8 (.izx nn) sreByte sreAfter s)
/-- SRE $nn, `$47` (R257). -/
def execSreZp (nn : Byte) (s : State) : Result := .next (rmwClass 5 (.zp nn) sreByte sreAfter s)
/-- SRE $hhll, `$4F` (R257). -/
def execSreAbs (w : Addr) (s : State) : Result := .next (rmwClass 6 (.abs w) sreByte sreAfter s)
/-- SRE ($nn),Y, `$53` (R257). -/
def execSreIzy (nn : Byte) (s : State) : Result := .next (rmwClass 8 (.izy nn) sreByte sreAfter s)
/-- SRE $nn,X, `$57` (R257). -/
def execSreZpx (nn : Byte) (s : State) : Result := .next (rmwClass 6 (.zpx nn) sreByte sreAfter s)
/-- SRE $hhll,Y, `$5B` (R257). -/
def execSreAby (w : Addr) (s : State) : Result := .next (rmwClass 7 (.aby w) sreByte sreAfter s)
/-- SRE $hhll,X, `$5F` (R257). -/
def execSreAbx (w : Addr) (s : State) : Result := .next (rmwClass 7 (.abx w) sreByte sreAfter s)

/-- RRA ($nn,X), `$63` (R258). -/
def execRraIzx (nn : Byte) (s : State) : Result := .next (rmwClass 8 (.izx nn) rraByte rraAfter s)
/-- RRA $nn, `$67` (R258). -/
def execRraZp (nn : Byte) (s : State) : Result := .next (rmwClass 5 (.zp nn) rraByte rraAfter s)
/-- RRA $hhll, `$6F` (R258). -/
def execRraAbs (w : Addr) (s : State) : Result := .next (rmwClass 6 (.abs w) rraByte rraAfter s)
/-- RRA ($nn),Y, `$73` (R258). -/
def execRraIzy (nn : Byte) (s : State) : Result := .next (rmwClass 8 (.izy nn) rraByte rraAfter s)
/-- RRA $nn,X, `$77` (R258). -/
def execRraZpx (nn : Byte) (s : State) : Result := .next (rmwClass 6 (.zpx nn) rraByte rraAfter s)
/-- RRA $hhll,Y, `$7B` (R258). -/
def execRraAby (w : Addr) (s : State) : Result := .next (rmwClass 7 (.aby w) rraByte rraAfter s)
/-- RRA $hhll,X, `$7F` (R258). -/
def execRraAbx (w : Addr) (s : State) : Result := .next (rmwClass 7 (.abx w) rraByte rraAfter s)

end Sys2Proof.Machine
end

