-- ==== Sys2Proof/Syntax.lean ====
section
/-! DEFINITION. The instructions: one constructor for each row of spec/opcode_table.json (30_encoding.md R140), with
the operand its format carries (R122, R124): nothing for F1, the operand byte `nn` for F2, the 16-bit operand `hh ++ ll` for F3.
A constructor is named by its mnemonic and, where the mnemonic has several modes, the mode. The constructors with an operand stand
first, then those without one, then the holes, each group in opcode order (Lean's compiler numbers constructors in one byte, so those
with a field must come early; the order means nothing to the machine). -/

namespace Sys2Proof

inductive Instr where
  | oraIzx (nn : Byte)
  | sloIzx (nn : Byte)
  | oraZp (nn : Byte)
  | aslZp (nn : Byte)
  | sloZp (nn : Byte)
  | oraImm (nn : Byte)
  | oraAbs (w : Addr)
  | aslAbs (w : Addr)
  | sloAbs (w : Addr)
  | bpl (nn : Byte)
  | oraIzy (nn : Byte)
  | sloIzy (nn : Byte)
  | oraZpx (nn : Byte)
  | aslZpx (nn : Byte)
  | sloZpx (nn : Byte)
  | oraAby (w : Addr)
  | sloAby (w : Addr)
  | oraAbx (w : Addr)
  | aslAbx (w : Addr)
  | sloAbx (w : Addr)
  | jsr (w : Addr)
  | andIzx (nn : Byte)
  | rlaIzx (nn : Byte)
  | bitZp (nn : Byte)
  | andZp (nn : Byte)
  | rolZp (nn : Byte)
  | rlaZp (nn : Byte)
  | andImm (nn : Byte)
  | bitAbs (w : Addr)
  | andAbs (w : Addr)
  | rolAbs (w : Addr)
  | rlaAbs (w : Addr)
  | bmi (nn : Byte)
  | andIzy (nn : Byte)
  | rlaIzy (nn : Byte)
  | andZpx (nn : Byte)
  | rolZpx (nn : Byte)
  | rlaZpx (nn : Byte)
  | andAby (w : Addr)
  | rlaAby (w : Addr)
  | andAbx (w : Addr)
  | rolAbx (w : Addr)
  | rlaAbx (w : Addr)
  | eorIzx (nn : Byte)
  | sreIzx (nn : Byte)
  | eorZp (nn : Byte)
  | lsrZp (nn : Byte)
  | sreZp (nn : Byte)
  | eorImm (nn : Byte)
  | jmpAbs (w : Addr)
  | eorAbs (w : Addr)
  | lsrAbs (w : Addr)
  | sreAbs (w : Addr)
  | bvc (nn : Byte)
  | eorIzy (nn : Byte)
  | sreIzy (nn : Byte)
  | eorZpx (nn : Byte)
  | lsrZpx (nn : Byte)
  | sreZpx (nn : Byte)
  | eorAby (w : Addr)
  | sreAby (w : Addr)
  | eorAbx (w : Addr)
  | lsrAbx (w : Addr)
  | sreAbx (w : Addr)
  | adcIzx (nn : Byte)
  | rraIzx (nn : Byte)
  | adcZp (nn : Byte)
  | rorZp (nn : Byte)
  | rraZp (nn : Byte)
  | adcImm (nn : Byte)
  | jmpInd (w : Addr)
  | adcAbs (w : Addr)
  | rorAbs (w : Addr)
  | rraAbs (w : Addr)
  | bvs (nn : Byte)
  | adcIzy (nn : Byte)
  | rraIzy (nn : Byte)
  | adcZpx (nn : Byte)
  | rorZpx (nn : Byte)
  | rraZpx (nn : Byte)
  | adcAby (w : Addr)
  | rraAby (w : Addr)
  | adcAbx (w : Addr)
  | rorAbx (w : Addr)
  | rraAbx (w : Addr)
  | staIzx (nn : Byte)
  | saxIzx (nn : Byte)
  | styZp (nn : Byte)
  | staZp (nn : Byte)
  | stxZp (nn : Byte)
  | saxZp (nn : Byte)
  | styAbs (w : Addr)
  | staAbs (w : Addr)
  | stxAbs (w : Addr)
  | saxAbs (w : Addr)
  | bcc (nn : Byte)
  | staIzy (nn : Byte)
  | styZpx (nn : Byte)
  | staZpx (nn : Byte)
  | stxZpy (nn : Byte)
  | saxZpy (nn : Byte)
  | staAby (w : Addr)
  | staAbx (w : Addr)
  | ldyImm (nn : Byte)
  | ldaIzx (nn : Byte)
  | ldxImm (nn : Byte)
  | laxIzx (nn : Byte)
  | ldyZp (nn : Byte)
  | ldaZp (nn : Byte)
  | ldxZp (nn : Byte)
  | laxZp (nn : Byte)
  | ldaImm (nn : Byte)
  | ldyAbs (w : Addr)
  | ldaAbs (w : Addr)
  | ldxAbs (w : Addr)
  | laxAbs (w : Addr)
  | bcs (nn : Byte)
  | ldaIzy (nn : Byte)
  | laxIzy (nn : Byte)
  | ldyZpx (nn : Byte)
  | ldaZpx (nn : Byte)
  | ldxZpy (nn : Byte)
  | laxZpy (nn : Byte)
  | ldaAby (w : Addr)
  | ldyAbx (w : Addr)
  | ldaAbx (w : Addr)
  | ldxAby (w : Addr)
  | laxAby (w : Addr)
  | cpyImm (nn : Byte)
  | cmpIzx (nn : Byte)
  | dcpIzx (nn : Byte)
  | cpyZp (nn : Byte)
  | cmpZp (nn : Byte)
  | decZp (nn : Byte)
  | dcpZp (nn : Byte)
  | cmpImm (nn : Byte)
  | cpyAbs (w : Addr)
  | cmpAbs (w : Addr)
  | decAbs (w : Addr)
  | dcpAbs (w : Addr)
  | bne (nn : Byte)
  | cmpIzy (nn : Byte)
  | dcpIzy (nn : Byte)
  | cmpZpx (nn : Byte)
  | decZpx (nn : Byte)
  | dcpZpx (nn : Byte)
  | cmpAby (w : Addr)
  | dcpAby (w : Addr)
  | cmpAbx (w : Addr)
  | decAbx (w : Addr)
  | dcpAbx (w : Addr)
  | cpxImm (nn : Byte)
  | sbcIzx (nn : Byte)
  | isbIzx (nn : Byte)
  | cpxZp (nn : Byte)
  | sbcZp (nn : Byte)
  | incZp (nn : Byte)
  | isbZp (nn : Byte)
  | sbcImm (nn : Byte)
  | cpxAbs (w : Addr)
  | sbcAbs (w : Addr)
  | incAbs (w : Addr)
  | isbAbs (w : Addr)
  | beq (nn : Byte)
  | sbcIzy (nn : Byte)
  | isbIzy (nn : Byte)
  | sbcZpx (nn : Byte)
  | incZpx (nn : Byte)
  | isbZpx (nn : Byte)
  | sbcAby (w : Addr)
  | isbAby (w : Addr)
  | sbcAbx (w : Addr)
  | incAbx (w : Addr)
  | isbAbx (w : Addr)
  | brk
  | php
  | aslAcc
  | clc
  | plp
  | rolAcc
  | sec
  | rti
  | pha
  | lsrAcc
  | cli
  | rts
  | pla
  | rorAcc
  | sei
  | dey
  | txa
  | tya
  | txs
  | tay
  | tax
  | clv
  | tsx
  | iny
  | dex
  | cld
  | inx
  | nop
  | sed
  | hole02
  | hole04
  | hole0B
  | hole0C
  | hole12
  | hole14
  | hole1A
  | hole1C
  | hole22
  | hole2B
  | hole32
  | hole34
  | hole3A
  | hole3C
  | hole42
  | hole44
  | hole4B
  | hole52
  | hole54
  | hole5A
  | hole5C
  | hole62
  | hole64
  | hole6B
  | hole72
  | hole74
  | hole7A
  | hole7C
  | hole80
  | hole82
  | hole89
  | hole8B
  | hole92
  | hole93
  | hole9B
  | hole9C
  | hole9E
  | hole9F
  | holeAB
  | holeB2
  | holeBB
  | holeC2
  | holeCB
  | holeD2
  | holeD4
  | holeDA
  | holeDC
  | holeE2
  | holeEB
  | holeF2
  | holeF4
  | holeFA
  | holeFC
  deriving DecidableEq, Repr

end Sys2Proof
end

