-- ==== Sys2Proof/Machine/Dispatch.lean ====
section
/-! DEFINITION. The dispatch: one arm per constructor of `Instr`, each one call of that instruction's meaning. -/

namespace Sys2Proof.Machine

def exec (i : Instr) (s : State) : Host.Outcome State Fault Refusal :=
  match i with
  | .brk => Sys2Proof.Machine.execBrk s
  | .oraIzx nn => Sys2Proof.Machine.execOraIzx nn s
  | .hole02 => Sys2Proof.Machine.execHole02 s
  | .sloIzx nn => Sys2Proof.Machine.execSloIzx nn s
  | .hole04 => Sys2Proof.Machine.execHole04 s
  | .oraZp nn => Sys2Proof.Machine.execOraZp nn s
  | .aslZp nn => Sys2Proof.Machine.execAslZp nn s
  | .sloZp nn => Sys2Proof.Machine.execSloZp nn s
  | .php => Sys2Proof.Machine.execPhp s
  | .oraImm nn => Sys2Proof.Machine.execOraImm nn s
  | .aslAcc => Sys2Proof.Machine.execAslAcc s
  | .hole0B => Sys2Proof.Machine.execHole0B s
  | .hole0C => Sys2Proof.Machine.execHole0C s
  | .oraAbs w => Sys2Proof.Machine.execOraAbs w s
  | .aslAbs w => Sys2Proof.Machine.execAslAbs w s
  | .sloAbs w => Sys2Proof.Machine.execSloAbs w s
  | .bpl nn => Sys2Proof.Machine.execBpl nn s
  | .oraIzy nn => Sys2Proof.Machine.execOraIzy nn s
  | .hole12 => Sys2Proof.Machine.execHole12 s
  | .sloIzy nn => Sys2Proof.Machine.execSloIzy nn s
  | .hole14 => Sys2Proof.Machine.execHole14 s
  | .oraZpx nn => Sys2Proof.Machine.execOraZpx nn s
  | .aslZpx nn => Sys2Proof.Machine.execAslZpx nn s
  | .sloZpx nn => Sys2Proof.Machine.execSloZpx nn s
  | .clc => Sys2Proof.Machine.execClc s
  | .oraAby w => Sys2Proof.Machine.execOraAby w s
  | .hole1A => Sys2Proof.Machine.execHole1A s
  | .sloAby w => Sys2Proof.Machine.execSloAby w s
  | .hole1C => Sys2Proof.Machine.execHole1C s
  | .oraAbx w => Sys2Proof.Machine.execOraAbx w s
  | .aslAbx w => Sys2Proof.Machine.execAslAbx w s
  | .sloAbx w => Sys2Proof.Machine.execSloAbx w s
  | .jsr w => Sys2Proof.Machine.execJsr w s
  | .andIzx nn => Sys2Proof.Machine.execAndIzx nn s
  | .hole22 => Sys2Proof.Machine.execHole22 s
  | .rlaIzx nn => Sys2Proof.Machine.execRlaIzx nn s
  | .bitZp nn => Sys2Proof.Machine.execBitZp nn s
  | .andZp nn => Sys2Proof.Machine.execAndZp nn s
  | .rolZp nn => Sys2Proof.Machine.execRolZp nn s
  | .rlaZp nn => Sys2Proof.Machine.execRlaZp nn s
  | .plp => Sys2Proof.Machine.execPlp s
  | .andImm nn => Sys2Proof.Machine.execAndImm nn s
  | .rolAcc => Sys2Proof.Machine.execRolAcc s
  | .hole2B => Sys2Proof.Machine.execHole2B s
  | .bitAbs w => Sys2Proof.Machine.execBitAbs w s
  | .andAbs w => Sys2Proof.Machine.execAndAbs w s
  | .rolAbs w => Sys2Proof.Machine.execRolAbs w s
  | .rlaAbs w => Sys2Proof.Machine.execRlaAbs w s
  | .bmi nn => Sys2Proof.Machine.execBmi nn s
  | .andIzy nn => Sys2Proof.Machine.execAndIzy nn s
  | .hole32 => Sys2Proof.Machine.execHole32 s
  | .rlaIzy nn => Sys2Proof.Machine.execRlaIzy nn s
  | .hole34 => Sys2Proof.Machine.execHole34 s
  | .andZpx nn => Sys2Proof.Machine.execAndZpx nn s
  | .rolZpx nn => Sys2Proof.Machine.execRolZpx nn s
  | .rlaZpx nn => Sys2Proof.Machine.execRlaZpx nn s
  | .sec => Sys2Proof.Machine.execSec s
  | .andAby w => Sys2Proof.Machine.execAndAby w s
  | .hole3A => Sys2Proof.Machine.execHole3A s
  | .rlaAby w => Sys2Proof.Machine.execRlaAby w s
  | .hole3C => Sys2Proof.Machine.execHole3C s
  | .andAbx w => Sys2Proof.Machine.execAndAbx w s
  | .rolAbx w => Sys2Proof.Machine.execRolAbx w s
  | .rlaAbx w => Sys2Proof.Machine.execRlaAbx w s
  | .rti => Sys2Proof.Machine.execRti s
  | .eorIzx nn => Sys2Proof.Machine.execEorIzx nn s
  | .hole42 => Sys2Proof.Machine.execHole42 s
  | .sreIzx nn => Sys2Proof.Machine.execSreIzx nn s
  | .hole44 => Sys2Proof.Machine.execHole44 s
  | .eorZp nn => Sys2Proof.Machine.execEorZp nn s
  | .lsrZp nn => Sys2Proof.Machine.execLsrZp nn s
  | .sreZp nn => Sys2Proof.Machine.execSreZp nn s
  | .pha => Sys2Proof.Machine.execPha s
  | .eorImm nn => Sys2Proof.Machine.execEorImm nn s
  | .lsrAcc => Sys2Proof.Machine.execLsrAcc s
  | .hole4B => Sys2Proof.Machine.execHole4B s
  | .jmpAbs w => Sys2Proof.Machine.execJmpAbs w s
  | .eorAbs w => Sys2Proof.Machine.execEorAbs w s
  | .lsrAbs w => Sys2Proof.Machine.execLsrAbs w s
  | .sreAbs w => Sys2Proof.Machine.execSreAbs w s
  | .bvc nn => Sys2Proof.Machine.execBvc nn s
  | .eorIzy nn => Sys2Proof.Machine.execEorIzy nn s
  | .hole52 => Sys2Proof.Machine.execHole52 s
  | .sreIzy nn => Sys2Proof.Machine.execSreIzy nn s
  | .hole54 => Sys2Proof.Machine.execHole54 s
  | .eorZpx nn => Sys2Proof.Machine.execEorZpx nn s
  | .lsrZpx nn => Sys2Proof.Machine.execLsrZpx nn s
  | .sreZpx nn => Sys2Proof.Machine.execSreZpx nn s
  | .cli => Sys2Proof.Machine.execCli s
  | .eorAby w => Sys2Proof.Machine.execEorAby w s
  | .hole5A => Sys2Proof.Machine.execHole5A s
  | .sreAby w => Sys2Proof.Machine.execSreAby w s
  | .hole5C => Sys2Proof.Machine.execHole5C s
  | .eorAbx w => Sys2Proof.Machine.execEorAbx w s
  | .lsrAbx w => Sys2Proof.Machine.execLsrAbx w s
  | .sreAbx w => Sys2Proof.Machine.execSreAbx w s
  | .rts => Sys2Proof.Machine.execRts s
  | .adcIzx nn => Sys2Proof.Machine.execAdcIzx nn s
  | .hole62 => Sys2Proof.Machine.execHole62 s
  | .rraIzx nn => Sys2Proof.Machine.execRraIzx nn s
  | .hole64 => Sys2Proof.Machine.execHole64 s
  | .adcZp nn => Sys2Proof.Machine.execAdcZp nn s
  | .rorZp nn => Sys2Proof.Machine.execRorZp nn s
  | .rraZp nn => Sys2Proof.Machine.execRraZp nn s
  | .pla => Sys2Proof.Machine.execPla s
  | .adcImm nn => Sys2Proof.Machine.execAdcImm nn s
  | .rorAcc => Sys2Proof.Machine.execRorAcc s
  | .hole6B => Sys2Proof.Machine.execHole6B s
  | .jmpInd w => Sys2Proof.Machine.execJmpInd w s
  | .adcAbs w => Sys2Proof.Machine.execAdcAbs w s
  | .rorAbs w => Sys2Proof.Machine.execRorAbs w s
  | .rraAbs w => Sys2Proof.Machine.execRraAbs w s
  | .bvs nn => Sys2Proof.Machine.execBvs nn s
  | .adcIzy nn => Sys2Proof.Machine.execAdcIzy nn s
  | .hole72 => Sys2Proof.Machine.execHole72 s
  | .rraIzy nn => Sys2Proof.Machine.execRraIzy nn s
  | .hole74 => Sys2Proof.Machine.execHole74 s
  | .adcZpx nn => Sys2Proof.Machine.execAdcZpx nn s
  | .rorZpx nn => Sys2Proof.Machine.execRorZpx nn s
  | .rraZpx nn => Sys2Proof.Machine.execRraZpx nn s
  | .sei => Sys2Proof.Machine.execSei s
  | .adcAby w => Sys2Proof.Machine.execAdcAby w s
  | .hole7A => Sys2Proof.Machine.execHole7A s
  | .rraAby w => Sys2Proof.Machine.execRraAby w s
  | .hole7C => Sys2Proof.Machine.execHole7C s
  | .adcAbx w => Sys2Proof.Machine.execAdcAbx w s
  | .rorAbx w => Sys2Proof.Machine.execRorAbx w s
  | .rraAbx w => Sys2Proof.Machine.execRraAbx w s
  | .hole80 => Sys2Proof.Machine.execHole80 s
  | .staIzx nn => Sys2Proof.Machine.execStaIzx nn s
  | .hole82 => Sys2Proof.Machine.execHole82 s
  | .saxIzx nn => Sys2Proof.Machine.execSaxIzx nn s
  | .styZp nn => Sys2Proof.Machine.execStyZp nn s
  | .staZp nn => Sys2Proof.Machine.execStaZp nn s
  | .stxZp nn => Sys2Proof.Machine.execStxZp nn s
  | .saxZp nn => Sys2Proof.Machine.execSaxZp nn s
  | .dey => Sys2Proof.Machine.execDey s
  | .hole89 => Sys2Proof.Machine.execHole89 s
  | .txa => Sys2Proof.Machine.execTxa s
  | .hole8B => Sys2Proof.Machine.execHole8B s
  | .styAbs w => Sys2Proof.Machine.execStyAbs w s
  | .staAbs w => Sys2Proof.Machine.execStaAbs w s
  | .stxAbs w => Sys2Proof.Machine.execStxAbs w s
  | .saxAbs w => Sys2Proof.Machine.execSaxAbs w s
  | .bcc nn => Sys2Proof.Machine.execBcc nn s
  | .staIzy nn => Sys2Proof.Machine.execStaIzy nn s
  | .hole92 => Sys2Proof.Machine.execHole92 s
  | .hole93 => Sys2Proof.Machine.execHole93 s
  | .styZpx nn => Sys2Proof.Machine.execStyZpx nn s
  | .staZpx nn => Sys2Proof.Machine.execStaZpx nn s
  | .stxZpy nn => Sys2Proof.Machine.execStxZpy nn s
  | .saxZpy nn => Sys2Proof.Machine.execSaxZpy nn s
  | .tya => Sys2Proof.Machine.execTya s
  | .staAby w => Sys2Proof.Machine.execStaAby w s
  | .txs => Sys2Proof.Machine.execTxs s
  | .hole9B => Sys2Proof.Machine.execHole9B s
  | .hole9C => Sys2Proof.Machine.execHole9C s
  | .staAbx w => Sys2Proof.Machine.execStaAbx w s
  | .hole9E => Sys2Proof.Machine.execHole9E s
  | .hole9F => Sys2Proof.Machine.execHole9F s
  | .ldyImm nn => Sys2Proof.Machine.execLdyImm nn s
  | .ldaIzx nn => Sys2Proof.Machine.execLdaIzx nn s
  | .ldxImm nn => Sys2Proof.Machine.execLdxImm nn s
  | .laxIzx nn => Sys2Proof.Machine.execLaxIzx nn s
  | .ldyZp nn => Sys2Proof.Machine.execLdyZp nn s
  | .ldaZp nn => Sys2Proof.Machine.execLdaZp nn s
  | .ldxZp nn => Sys2Proof.Machine.execLdxZp nn s
  | .laxZp nn => Sys2Proof.Machine.execLaxZp nn s
  | .tay => Sys2Proof.Machine.execTay s
  | .ldaImm nn => Sys2Proof.Machine.execLdaImm nn s
  | .tax => Sys2Proof.Machine.execTax s
  | .holeAB => Sys2Proof.Machine.execHoleAB s
  | .ldyAbs w => Sys2Proof.Machine.execLdyAbs w s
  | .ldaAbs w => Sys2Proof.Machine.execLdaAbs w s
  | .ldxAbs w => Sys2Proof.Machine.execLdxAbs w s
  | .laxAbs w => Sys2Proof.Machine.execLaxAbs w s
  | .bcs nn => Sys2Proof.Machine.execBcs nn s
  | .ldaIzy nn => Sys2Proof.Machine.execLdaIzy nn s
  | .holeB2 => Sys2Proof.Machine.execHoleB2 s
  | .laxIzy nn => Sys2Proof.Machine.execLaxIzy nn s
  | .ldyZpx nn => Sys2Proof.Machine.execLdyZpx nn s
  | .ldaZpx nn => Sys2Proof.Machine.execLdaZpx nn s
  | .ldxZpy nn => Sys2Proof.Machine.execLdxZpy nn s
  | .laxZpy nn => Sys2Proof.Machine.execLaxZpy nn s
  | .clv => Sys2Proof.Machine.execClv s
  | .ldaAby w => Sys2Proof.Machine.execLdaAby w s
  | .tsx => Sys2Proof.Machine.execTsx s
  | .holeBB => Sys2Proof.Machine.execHoleBB s
  | .ldyAbx w => Sys2Proof.Machine.execLdyAbx w s
  | .ldaAbx w => Sys2Proof.Machine.execLdaAbx w s
  | .ldxAby w => Sys2Proof.Machine.execLdxAby w s
  | .laxAby w => Sys2Proof.Machine.execLaxAby w s
  | .cpyImm nn => Sys2Proof.Machine.execCpyImm nn s
  | .cmpIzx nn => Sys2Proof.Machine.execCmpIzx nn s
  | .holeC2 => Sys2Proof.Machine.execHoleC2 s
  | .dcpIzx nn => Sys2Proof.Machine.execDcpIzx nn s
  | .cpyZp nn => Sys2Proof.Machine.execCpyZp nn s
  | .cmpZp nn => Sys2Proof.Machine.execCmpZp nn s
  | .decZp nn => Sys2Proof.Machine.execDecZp nn s
  | .dcpZp nn => Sys2Proof.Machine.execDcpZp nn s
  | .iny => Sys2Proof.Machine.execIny s
  | .cmpImm nn => Sys2Proof.Machine.execCmpImm nn s
  | .dex => Sys2Proof.Machine.execDex s
  | .holeCB => Sys2Proof.Machine.execHoleCB s
  | .cpyAbs w => Sys2Proof.Machine.execCpyAbs w s
  | .cmpAbs w => Sys2Proof.Machine.execCmpAbs w s
  | .decAbs w => Sys2Proof.Machine.execDecAbs w s
  | .dcpAbs w => Sys2Proof.Machine.execDcpAbs w s
  | .bne nn => Sys2Proof.Machine.execBne nn s
  | .cmpIzy nn => Sys2Proof.Machine.execCmpIzy nn s
  | .holeD2 => Sys2Proof.Machine.execHoleD2 s
  | .dcpIzy nn => Sys2Proof.Machine.execDcpIzy nn s
  | .holeD4 => Sys2Proof.Machine.execHoleD4 s
  | .cmpZpx nn => Sys2Proof.Machine.execCmpZpx nn s
  | .decZpx nn => Sys2Proof.Machine.execDecZpx nn s
  | .dcpZpx nn => Sys2Proof.Machine.execDcpZpx nn s
  | .cld => Sys2Proof.Machine.execCld s
  | .cmpAby w => Sys2Proof.Machine.execCmpAby w s
  | .holeDA => Sys2Proof.Machine.execHoleDA s
  | .dcpAby w => Sys2Proof.Machine.execDcpAby w s
  | .holeDC => Sys2Proof.Machine.execHoleDC s
  | .cmpAbx w => Sys2Proof.Machine.execCmpAbx w s
  | .decAbx w => Sys2Proof.Machine.execDecAbx w s
  | .dcpAbx w => Sys2Proof.Machine.execDcpAbx w s
  | .cpxImm nn => Sys2Proof.Machine.execCpxImm nn s
  | .sbcIzx nn => Sys2Proof.Machine.execSbcIzx nn s
  | .holeE2 => Sys2Proof.Machine.execHoleE2 s
  | .isbIzx nn => Sys2Proof.Machine.execIsbIzx nn s
  | .cpxZp nn => Sys2Proof.Machine.execCpxZp nn s
  | .sbcZp nn => Sys2Proof.Machine.execSbcZp nn s
  | .incZp nn => Sys2Proof.Machine.execIncZp nn s
  | .isbZp nn => Sys2Proof.Machine.execIsbZp nn s
  | .inx => Sys2Proof.Machine.execInx s
  | .sbcImm nn => Sys2Proof.Machine.execSbcImm nn s
  | .nop => Sys2Proof.Machine.execNop s
  | .holeEB => Sys2Proof.Machine.execHoleEB s
  | .cpxAbs w => Sys2Proof.Machine.execCpxAbs w s
  | .sbcAbs w => Sys2Proof.Machine.execSbcAbs w s
  | .incAbs w => Sys2Proof.Machine.execIncAbs w s
  | .isbAbs w => Sys2Proof.Machine.execIsbAbs w s
  | .beq nn => Sys2Proof.Machine.execBeq nn s
  | .sbcIzy nn => Sys2Proof.Machine.execSbcIzy nn s
  | .holeF2 => Sys2Proof.Machine.execHoleF2 s
  | .isbIzy nn => Sys2Proof.Machine.execIsbIzy nn s
  | .holeF4 => Sys2Proof.Machine.execHoleF4 s
  | .sbcZpx nn => Sys2Proof.Machine.execSbcZpx nn s
  | .incZpx nn => Sys2Proof.Machine.execIncZpx nn s
  | .isbZpx nn => Sys2Proof.Machine.execIsbZpx nn s
  | .sed => Sys2Proof.Machine.execSed s
  | .sbcAby w => Sys2Proof.Machine.execSbcAby w s
  | .holeFA => Sys2Proof.Machine.execHoleFA s
  | .isbAby w => Sys2Proof.Machine.execIsbAby w s
  | .holeFC => Sys2Proof.Machine.execHoleFC s
  | .sbcAbx w => Sys2Proof.Machine.execSbcAbx w s
  | .incAbx w => Sys2Proof.Machine.execIncAbx w s
  | .isbAbx w => Sys2Proof.Machine.execIsbAbx w s

end Sys2Proof.Machine
end

