-- ==== Sys2Proof/Decode.lean ====
section
/-! DEFINITION. Decoding: the opcode table (30_encoding.md R140) with its metadata (10_state.md R35), the decoder on bytes, total and
rejecting by name, and after it the encoder. -/

namespace Sys2Proof

/-- A 16-bit operand from its two bytes, low byte first in memory (30_encoding.md R124, 20_memory.md R80). -/
def operand16 (ll hh : Byte) : Addr := hh ++ ll

/-- The low byte of a 16-bit operand. -/
def operandLo (w : Addr) : Byte := w.setWidth 8

/-- The high byte of a 16-bit operand. -/
def operandHi (w : Addr) : Byte := (w >>> 8).setWidth 8

/-- The instruction formats (30_encoding.md R122): how the instruction is made from its operand bytes. -/
inductive Format where
  | f1 (i : Instr)
  | f2 (make : Byte → Instr)
  | f3 (make : Addr → Instr)

/-- One cell of the opcode table (30_encoding.md R140): operation, mode, base cycles, page-cross mark `+`, and the format. -/
structure OpRow where
  op      : Op
  mode    : Mode
  base    : Nat
  penalty : Bool
  format  : Format

/-- Row 0x of the opcode table (R140). -/
def opTableRow0 : List OpRow :=
  [ ⟨.brk, .imp, 7, false, .f1 .brk⟩,
    ⟨.ora, .izx, 6, false, .f2 .oraIzx⟩,
    ⟨.hole, .imp, 1, false, .f1 .hole02⟩,
    ⟨.slo, .izx, 8, false, .f2 .sloIzx⟩,
    ⟨.hole, .imp, 1, false, .f1 .hole04⟩,
    ⟨.ora, .zp, 3, false, .f2 .oraZp⟩,
    ⟨.asl, .zp, 5, false, .f2 .aslZp⟩,
    ⟨.slo, .zp, 5, false, .f2 .sloZp⟩,
    ⟨.php, .imp, 3, false, .f1 .php⟩,
    ⟨.ora, .imm, 2, false, .f2 .oraImm⟩,
    ⟨.asl, .acc, 2, false, .f1 .aslAcc⟩,
    ⟨.hole, .imp, 1, false, .f1 .hole0B⟩,
    ⟨.hole, .imp, 1, false, .f1 .hole0C⟩,
    ⟨.ora, .abs, 4, false, .f3 .oraAbs⟩,
    ⟨.asl, .abs, 6, false, .f3 .aslAbs⟩,
    ⟨.slo, .abs, 6, false, .f3 .sloAbs⟩ ]

/-- Row 1x of the opcode table (R140). -/
def opTableRow1 : List OpRow :=
  [ ⟨.bpl, .rel, 2, false, .f2 .bpl⟩,
    ⟨.ora, .izy, 5, true, .f2 .oraIzy⟩,
    ⟨.hole, .imp, 1, false, .f1 .hole12⟩,
    ⟨.slo, .izy, 8, false, .f2 .sloIzy⟩,
    ⟨.hole, .imp, 1, false, .f1 .hole14⟩,
    ⟨.ora, .zpx, 4, false, .f2 .oraZpx⟩,
    ⟨.asl, .zpx, 6, false, .f2 .aslZpx⟩,
    ⟨.slo, .zpx, 6, false, .f2 .sloZpx⟩,
    ⟨.clc, .imp, 2, false, .f1 .clc⟩,
    ⟨.ora, .aby, 4, true, .f3 .oraAby⟩,
    ⟨.hole, .imp, 1, false, .f1 .hole1A⟩,
    ⟨.slo, .aby, 7, false, .f3 .sloAby⟩,
    ⟨.hole, .imp, 1, false, .f1 .hole1C⟩,
    ⟨.ora, .abx, 4, true, .f3 .oraAbx⟩,
    ⟨.asl, .abx, 7, false, .f3 .aslAbx⟩,
    ⟨.slo, .abx, 7, false, .f3 .sloAbx⟩ ]

/-- Row 2x of the opcode table (R140). -/
def opTableRow2 : List OpRow :=
  [ ⟨.jsr, .abs, 6, false, .f3 .jsr⟩,
    ⟨.and, .izx, 6, false, .f2 .andIzx⟩,
    ⟨.hole, .imp, 1, false, .f1 .hole22⟩,
    ⟨.rla, .izx, 8, false, .f2 .rlaIzx⟩,
    ⟨.bit, .zp, 3, false, .f2 .bitZp⟩,
    ⟨.and, .zp, 3, false, .f2 .andZp⟩,
    ⟨.rol, .zp, 5, false, .f2 .rolZp⟩,
    ⟨.rla, .zp, 5, false, .f2 .rlaZp⟩,
    ⟨.plp, .imp, 4, false, .f1 .plp⟩,
    ⟨.and, .imm, 2, false, .f2 .andImm⟩,
    ⟨.rol, .acc, 2, false, .f1 .rolAcc⟩,
    ⟨.hole, .imp, 1, false, .f1 .hole2B⟩,
    ⟨.bit, .abs, 4, false, .f3 .bitAbs⟩,
    ⟨.and, .abs, 4, false, .f3 .andAbs⟩,
    ⟨.rol, .abs, 6, false, .f3 .rolAbs⟩,
    ⟨.rla, .abs, 6, false, .f3 .rlaAbs⟩ ]

/-- Row 3x of the opcode table (R140). -/
def opTableRow3 : List OpRow :=
  [ ⟨.bmi, .rel, 2, false, .f2 .bmi⟩,
    ⟨.and, .izy, 5, true, .f2 .andIzy⟩,
    ⟨.hole, .imp, 1, false, .f1 .hole32⟩,
    ⟨.rla, .izy, 8, false, .f2 .rlaIzy⟩,
    ⟨.hole, .imp, 1, false, .f1 .hole34⟩,
    ⟨.and, .zpx, 4, false, .f2 .andZpx⟩,
    ⟨.rol, .zpx, 6, false, .f2 .rolZpx⟩,
    ⟨.rla, .zpx, 6, false, .f2 .rlaZpx⟩,
    ⟨.sec, .imp, 2, false, .f1 .sec⟩,
    ⟨.and, .aby, 4, true, .f3 .andAby⟩,
    ⟨.hole, .imp, 1, false, .f1 .hole3A⟩,
    ⟨.rla, .aby, 7, false, .f3 .rlaAby⟩,
    ⟨.hole, .imp, 1, false, .f1 .hole3C⟩,
    ⟨.and, .abx, 4, true, .f3 .andAbx⟩,
    ⟨.rol, .abx, 7, false, .f3 .rolAbx⟩,
    ⟨.rla, .abx, 7, false, .f3 .rlaAbx⟩ ]

/-- Row 4x of the opcode table (R140). -/
def opTableRow4 : List OpRow :=
  [ ⟨.rti, .imp, 6, false, .f1 .rti⟩,
    ⟨.eor, .izx, 6, false, .f2 .eorIzx⟩,
    ⟨.hole, .imp, 1, false, .f1 .hole42⟩,
    ⟨.sre, .izx, 8, false, .f2 .sreIzx⟩,
    ⟨.hole, .imp, 1, false, .f1 .hole44⟩,
    ⟨.eor, .zp, 3, false, .f2 .eorZp⟩,
    ⟨.lsr, .zp, 5, false, .f2 .lsrZp⟩,
    ⟨.sre, .zp, 5, false, .f2 .sreZp⟩,
    ⟨.pha, .imp, 3, false, .f1 .pha⟩,
    ⟨.eor, .imm, 2, false, .f2 .eorImm⟩,
    ⟨.lsr, .acc, 2, false, .f1 .lsrAcc⟩,
    ⟨.hole, .imp, 1, false, .f1 .hole4B⟩,
    ⟨.jmp, .abs, 3, false, .f3 .jmpAbs⟩,
    ⟨.eor, .abs, 4, false, .f3 .eorAbs⟩,
    ⟨.lsr, .abs, 6, false, .f3 .lsrAbs⟩,
    ⟨.sre, .abs, 6, false, .f3 .sreAbs⟩ ]

/-- Row 5x of the opcode table (R140). -/
def opTableRow5 : List OpRow :=
  [ ⟨.bvc, .rel, 2, false, .f2 .bvc⟩,
    ⟨.eor, .izy, 5, true, .f2 .eorIzy⟩,
    ⟨.hole, .imp, 1, false, .f1 .hole52⟩,
    ⟨.sre, .izy, 8, false, .f2 .sreIzy⟩,
    ⟨.hole, .imp, 1, false, .f1 .hole54⟩,
    ⟨.eor, .zpx, 4, false, .f2 .eorZpx⟩,
    ⟨.lsr, .zpx, 6, false, .f2 .lsrZpx⟩,
    ⟨.sre, .zpx, 6, false, .f2 .sreZpx⟩,
    ⟨.cli, .imp, 2, false, .f1 .cli⟩,
    ⟨.eor, .aby, 4, true, .f3 .eorAby⟩,
    ⟨.hole, .imp, 1, false, .f1 .hole5A⟩,
    ⟨.sre, .aby, 7, false, .f3 .sreAby⟩,
    ⟨.hole, .imp, 1, false, .f1 .hole5C⟩,
    ⟨.eor, .abx, 4, true, .f3 .eorAbx⟩,
    ⟨.lsr, .abx, 7, false, .f3 .lsrAbx⟩,
    ⟨.sre, .abx, 7, false, .f3 .sreAbx⟩ ]

/-- Row 6x of the opcode table (R140). -/
def opTableRow6 : List OpRow :=
  [ ⟨.rts, .imp, 6, false, .f1 .rts⟩,
    ⟨.adc, .izx, 6, false, .f2 .adcIzx⟩,
    ⟨.hole, .imp, 1, false, .f1 .hole62⟩,
    ⟨.rra, .izx, 8, false, .f2 .rraIzx⟩,
    ⟨.hole, .imp, 1, false, .f1 .hole64⟩,
    ⟨.adc, .zp, 3, false, .f2 .adcZp⟩,
    ⟨.ror, .zp, 5, false, .f2 .rorZp⟩,
    ⟨.rra, .zp, 5, false, .f2 .rraZp⟩,
    ⟨.pla, .imp, 4, false, .f1 .pla⟩,
    ⟨.adc, .imm, 2, false, .f2 .adcImm⟩,
    ⟨.ror, .acc, 2, false, .f1 .rorAcc⟩,
    ⟨.hole, .imp, 1, false, .f1 .hole6B⟩,
    ⟨.jmp, .ind, 5, false, .f3 .jmpInd⟩,
    ⟨.adc, .abs, 4, false, .f3 .adcAbs⟩,
    ⟨.ror, .abs, 6, false, .f3 .rorAbs⟩,
    ⟨.rra, .abs, 6, false, .f3 .rraAbs⟩ ]

/-- Row 7x of the opcode table (R140). -/
def opTableRow7 : List OpRow :=
  [ ⟨.bvs, .rel, 2, false, .f2 .bvs⟩,
    ⟨.adc, .izy, 5, true, .f2 .adcIzy⟩,
    ⟨.hole, .imp, 1, false, .f1 .hole72⟩,
    ⟨.rra, .izy, 8, false, .f2 .rraIzy⟩,
    ⟨.hole, .imp, 1, false, .f1 .hole74⟩,
    ⟨.adc, .zpx, 4, false, .f2 .adcZpx⟩,
    ⟨.ror, .zpx, 6, false, .f2 .rorZpx⟩,
    ⟨.rra, .zpx, 6, false, .f2 .rraZpx⟩,
    ⟨.sei, .imp, 2, false, .f1 .sei⟩,
    ⟨.adc, .aby, 4, true, .f3 .adcAby⟩,
    ⟨.hole, .imp, 1, false, .f1 .hole7A⟩,
    ⟨.rra, .aby, 7, false, .f3 .rraAby⟩,
    ⟨.hole, .imp, 1, false, .f1 .hole7C⟩,
    ⟨.adc, .abx, 4, true, .f3 .adcAbx⟩,
    ⟨.ror, .abx, 7, false, .f3 .rorAbx⟩,
    ⟨.rra, .abx, 7, false, .f3 .rraAbx⟩ ]

/-- Row 8x of the opcode table (R140). -/
def opTableRow8 : List OpRow :=
  [ ⟨.hole, .imp, 1, false, .f1 .hole80⟩,
    ⟨.sta, .izx, 6, false, .f2 .staIzx⟩,
    ⟨.hole, .imp, 1, false, .f1 .hole82⟩,
    ⟨.sax, .izx, 6, false, .f2 .saxIzx⟩,
    ⟨.sty, .zp, 3, false, .f2 .styZp⟩,
    ⟨.sta, .zp, 3, false, .f2 .staZp⟩,
    ⟨.stx, .zp, 3, false, .f2 .stxZp⟩,
    ⟨.sax, .zp, 3, false, .f2 .saxZp⟩,
    ⟨.dey, .imp, 2, false, .f1 .dey⟩,
    ⟨.hole, .imp, 1, false, .f1 .hole89⟩,
    ⟨.txa, .imp, 2, false, .f1 .txa⟩,
    ⟨.hole, .imp, 1, false, .f1 .hole8B⟩,
    ⟨.sty, .abs, 4, false, .f3 .styAbs⟩,
    ⟨.sta, .abs, 4, false, .f3 .staAbs⟩,
    ⟨.stx, .abs, 4, false, .f3 .stxAbs⟩,
    ⟨.sax, .abs, 4, false, .f3 .saxAbs⟩ ]

/-- Row 9x of the opcode table (R140). -/
def opTableRow9 : List OpRow :=
  [ ⟨.bcc, .rel, 2, false, .f2 .bcc⟩,
    ⟨.sta, .izy, 6, false, .f2 .staIzy⟩,
    ⟨.hole, .imp, 1, false, .f1 .hole92⟩,
    ⟨.hole, .imp, 1, false, .f1 .hole93⟩,
    ⟨.sty, .zpx, 4, false, .f2 .styZpx⟩,
    ⟨.sta, .zpx, 4, false, .f2 .staZpx⟩,
    ⟨.stx, .zpy, 4, false, .f2 .stxZpy⟩,
    ⟨.sax, .zpy, 4, false, .f2 .saxZpy⟩,
    ⟨.tya, .imp, 2, false, .f1 .tya⟩,
    ⟨.sta, .aby, 5, false, .f3 .staAby⟩,
    ⟨.txs, .imp, 2, false, .f1 .txs⟩,
    ⟨.hole, .imp, 1, false, .f1 .hole9B⟩,
    ⟨.hole, .imp, 1, false, .f1 .hole9C⟩,
    ⟨.sta, .abx, 5, false, .f3 .staAbx⟩,
    ⟨.hole, .imp, 1, false, .f1 .hole9E⟩,
    ⟨.hole, .imp, 1, false, .f1 .hole9F⟩ ]

/-- Row Ax of the opcode table (R140). -/
def opTableRowA : List OpRow :=
  [ ⟨.ldy, .imm, 2, false, .f2 .ldyImm⟩,
    ⟨.lda, .izx, 6, false, .f2 .ldaIzx⟩,
    ⟨.ldx, .imm, 2, false, .f2 .ldxImm⟩,
    ⟨.lax, .izx, 6, false, .f2 .laxIzx⟩,
    ⟨.ldy, .zp, 3, false, .f2 .ldyZp⟩,
    ⟨.lda, .zp, 3, false, .f2 .ldaZp⟩,
    ⟨.ldx, .zp, 3, false, .f2 .ldxZp⟩,
    ⟨.lax, .zp, 3, false, .f2 .laxZp⟩,
    ⟨.tay, .imp, 2, false, .f1 .tay⟩,
    ⟨.lda, .imm, 2, false, .f2 .ldaImm⟩,
    ⟨.tax, .imp, 2, false, .f1 .tax⟩,
    ⟨.hole, .imp, 1, false, .f1 .holeAB⟩,
    ⟨.ldy, .abs, 4, false, .f3 .ldyAbs⟩,
    ⟨.lda, .abs, 4, false, .f3 .ldaAbs⟩,
    ⟨.ldx, .abs, 4, false, .f3 .ldxAbs⟩,
    ⟨.lax, .abs, 4, false, .f3 .laxAbs⟩ ]

/-- Row Bx of the opcode table (R140). -/
def opTableRowB : List OpRow :=
  [ ⟨.bcs, .rel, 2, false, .f2 .bcs⟩,
    ⟨.lda, .izy, 5, true, .f2 .ldaIzy⟩,
    ⟨.hole, .imp, 1, false, .f1 .holeB2⟩,
    ⟨.lax, .izy, 5, true, .f2 .laxIzy⟩,
    ⟨.ldy, .zpx, 4, false, .f2 .ldyZpx⟩,
    ⟨.lda, .zpx, 4, false, .f2 .ldaZpx⟩,
    ⟨.ldx, .zpy, 4, false, .f2 .ldxZpy⟩,
    ⟨.lax, .zpy, 4, false, .f2 .laxZpy⟩,
    ⟨.clv, .imp, 2, false, .f1 .clv⟩,
    ⟨.lda, .aby, 4, true, .f3 .ldaAby⟩,
    ⟨.tsx, .imp, 2, false, .f1 .tsx⟩,
    ⟨.hole, .imp, 1, false, .f1 .holeBB⟩,
    ⟨.ldy, .abx, 4, true, .f3 .ldyAbx⟩,
    ⟨.lda, .abx, 4, true, .f3 .ldaAbx⟩,
    ⟨.ldx, .aby, 4, true, .f3 .ldxAby⟩,
    ⟨.lax, .aby, 4, true, .f3 .laxAby⟩ ]

/-- Row Cx of the opcode table (R140). -/
def opTableRowC : List OpRow :=
  [ ⟨.cpy, .imm, 2, false, .f2 .cpyImm⟩,
    ⟨.cmp, .izx, 6, false, .f2 .cmpIzx⟩,
    ⟨.hole, .imp, 1, false, .f1 .holeC2⟩,
    ⟨.dcp, .izx, 8, false, .f2 .dcpIzx⟩,
    ⟨.cpy, .zp, 3, false, .f2 .cpyZp⟩,
    ⟨.cmp, .zp, 3, false, .f2 .cmpZp⟩,
    ⟨.dec, .zp, 5, false, .f2 .decZp⟩,
    ⟨.dcp, .zp, 5, false, .f2 .dcpZp⟩,
    ⟨.iny, .imp, 2, false, .f1 .iny⟩,
    ⟨.cmp, .imm, 2, false, .f2 .cmpImm⟩,
    ⟨.dex, .imp, 2, false, .f1 .dex⟩,
    ⟨.hole, .imp, 1, false, .f1 .holeCB⟩,
    ⟨.cpy, .abs, 4, false, .f3 .cpyAbs⟩,
    ⟨.cmp, .abs, 4, false, .f3 .cmpAbs⟩,
    ⟨.dec, .abs, 6, false, .f3 .decAbs⟩,
    ⟨.dcp, .abs, 6, false, .f3 .dcpAbs⟩ ]

/-- Row Dx of the opcode table (R140). -/
def opTableRowD : List OpRow :=
  [ ⟨.bne, .rel, 2, false, .f2 .bne⟩,
    ⟨.cmp, .izy, 5, true, .f2 .cmpIzy⟩,
    ⟨.hole, .imp, 1, false, .f1 .holeD2⟩,
    ⟨.dcp, .izy, 8, false, .f2 .dcpIzy⟩,
    ⟨.hole, .imp, 1, false, .f1 .holeD4⟩,
    ⟨.cmp, .zpx, 4, false, .f2 .cmpZpx⟩,
    ⟨.dec, .zpx, 6, false, .f2 .decZpx⟩,
    ⟨.dcp, .zpx, 6, false, .f2 .dcpZpx⟩,
    ⟨.cld, .imp, 2, false, .f1 .cld⟩,
    ⟨.cmp, .aby, 4, true, .f3 .cmpAby⟩,
    ⟨.hole, .imp, 1, false, .f1 .holeDA⟩,
    ⟨.dcp, .aby, 7, false, .f3 .dcpAby⟩,
    ⟨.hole, .imp, 1, false, .f1 .holeDC⟩,
    ⟨.cmp, .abx, 4, true, .f3 .cmpAbx⟩,
    ⟨.dec, .abx, 7, false, .f3 .decAbx⟩,
    ⟨.dcp, .abx, 7, false, .f3 .dcpAbx⟩ ]

/-- Row Ex of the opcode table (R140). -/
def opTableRowE : List OpRow :=
  [ ⟨.cpx, .imm, 2, false, .f2 .cpxImm⟩,
    ⟨.sbc, .izx, 6, false, .f2 .sbcIzx⟩,
    ⟨.hole, .imp, 1, false, .f1 .holeE2⟩,
    ⟨.isb, .izx, 8, false, .f2 .isbIzx⟩,
    ⟨.cpx, .zp, 3, false, .f2 .cpxZp⟩,
    ⟨.sbc, .zp, 3, false, .f2 .sbcZp⟩,
    ⟨.inc, .zp, 5, false, .f2 .incZp⟩,
    ⟨.isb, .zp, 5, false, .f2 .isbZp⟩,
    ⟨.inx, .imp, 2, false, .f1 .inx⟩,
    ⟨.sbc, .imm, 2, false, .f2 .sbcImm⟩,
    ⟨.nop, .imp, 2, false, .f1 .nop⟩,
    ⟨.hole, .imp, 1, false, .f1 .holeEB⟩,
    ⟨.cpx, .abs, 4, false, .f3 .cpxAbs⟩,
    ⟨.sbc, .abs, 4, false, .f3 .sbcAbs⟩,
    ⟨.inc, .abs, 6, false, .f3 .incAbs⟩,
    ⟨.isb, .abs, 6, false, .f3 .isbAbs⟩ ]

/-- Row Fx of the opcode table (R140). -/
def opTableRowF : List OpRow :=
  [ ⟨.beq, .rel, 2, false, .f2 .beq⟩,
    ⟨.sbc, .izy, 5, true, .f2 .sbcIzy⟩,
    ⟨.hole, .imp, 1, false, .f1 .holeF2⟩,
    ⟨.isb, .izy, 8, false, .f2 .isbIzy⟩,
    ⟨.hole, .imp, 1, false, .f1 .holeF4⟩,
    ⟨.sbc, .zpx, 4, false, .f2 .sbcZpx⟩,
    ⟨.inc, .zpx, 6, false, .f2 .incZpx⟩,
    ⟨.isb, .zpx, 6, false, .f2 .isbZpx⟩,
    ⟨.sed, .imp, 2, false, .f1 .sed⟩,
    ⟨.sbc, .aby, 4, true, .f3 .sbcAby⟩,
    ⟨.hole, .imp, 1, false, .f1 .holeFA⟩,
    ⟨.isb, .aby, 7, false, .f3 .isbAby⟩,
    ⟨.hole, .imp, 1, false, .f1 .holeFC⟩,
    ⟨.sbc, .abx, 4, true, .f3 .sbcAbx⟩,
    ⟨.inc, .abx, 7, false, .f3 .incAbx⟩,
    ⟨.isb, .abx, 7, false, .f3 .isbAbx⟩ ]

/-- `OPTABLE` (30_encoding.md R140): sixteen rows by the opcode's high nibble, sixteen columns by its low nibble. -/
def opMatrix : List (List OpRow) :=
  [opTableRow0, opTableRow1, opTableRow2, opTableRow3, opTableRow4, opTableRow5, opTableRow6, opTableRow7] ++
  [opTableRow8, opTableRow9, opTableRowA, opTableRowB, opTableRowC, opTableRowD, opTableRowE, opTableRowF]

/-- The row of an opcode byte. Every opcode byte has one (the fallback is never taken: `opTable_total`). -/
def opTable (op : Byte) : OpRow :=
  ((opMatrix.getD (op.toNat / 16) []).getD (op.toNat % 16) ⟨.nop, .imp, 2, false, .f1 .nop⟩)

/-- Bytes an instruction of a mode occupies (30_encoding.md R122). -/
def Mode.length : Mode → Nat
  | .imp | .acc => 1
  | .imm | .zp | .zpx | .zpy | .izx | .izy | .rel => 2
  | .abs | .abx | .aby | .ind => 3

/-- Why a list of bytes is no instruction. No opcode byte is refused (30_encoding.md R150), so only the end of the bytes is. -/
inductive DecodeError where
  /-- There is no opcode byte. -/
  | noOpcode
  /-- The bytes end inside the operand of the opcode. -/
  | truncated (op : Byte)
  deriving DecidableEq, Repr

/-- The decoder (30_encoding.md R120, R122): the instruction at the head of the bytes and the bytes after it. -/
def decode : List Byte → Except DecodeError (Instr × List Byte)
  | [] => .error .noOpcode
  | op :: rest =>
    match (opTable op).format, rest with
    | .f1 i, rest => .ok (i, rest)
    | .f2 make, nn :: rest => .ok (make nn, rest)
    | .f3 make, ll :: hh :: rest => .ok (make (operand16 ll hh), rest)
    | .f2 _, [] => .error (.truncated op)
    | .f3 _, [] => .error (.truncated op)
    | .f3 _, [_] => .error (.truncated op)

/-- The instruction the decoder reads from a table word: the bits of `w` below `nbits`, laid out as bytes, first byte lowest, the
bits above them zero. -/
def decodeTableWord (nbits w : Nat) : Option Instr :=
  let v := w % 2 ^ nbits
  match decode [BitVec.ofNat 8 v, BitVec.ofNat 8 (v / 256), BitVec.ofNat 8 (v / 65536)] with
  | .ok (i, _) => some i
  | .error _ => none

/-- The encoder: the bytes of an instruction (30_encoding.md R122, R124, R140). -/
def encode : Instr → List Byte
  | .brk => [0x00#8]
  | .oraIzx nn => [0x01#8, nn]
  | .hole02 => [0x02#8]
  | .sloIzx nn => [0x03#8, nn]
  | .hole04 => [0x04#8]
  | .oraZp nn => [0x05#8, nn]
  | .aslZp nn => [0x06#8, nn]
  | .sloZp nn => [0x07#8, nn]
  | .php => [0x08#8]
  | .oraImm nn => [0x09#8, nn]
  | .aslAcc => [0x0A#8]
  | .hole0B => [0x0B#8]
  | .hole0C => [0x0C#8]
  | .oraAbs w => [0x0D#8, operandLo w, operandHi w]
  | .aslAbs w => [0x0E#8, operandLo w, operandHi w]
  | .sloAbs w => [0x0F#8, operandLo w, operandHi w]
  | .bpl nn => [0x10#8, nn]
  | .oraIzy nn => [0x11#8, nn]
  | .hole12 => [0x12#8]
  | .sloIzy nn => [0x13#8, nn]
  | .hole14 => [0x14#8]
  | .oraZpx nn => [0x15#8, nn]
  | .aslZpx nn => [0x16#8, nn]
  | .sloZpx nn => [0x17#8, nn]
  | .clc => [0x18#8]
  | .oraAby w => [0x19#8, operandLo w, operandHi w]
  | .hole1A => [0x1A#8]
  | .sloAby w => [0x1B#8, operandLo w, operandHi w]
  | .hole1C => [0x1C#8]
  | .oraAbx w => [0x1D#8, operandLo w, operandHi w]
  | .aslAbx w => [0x1E#8, operandLo w, operandHi w]
  | .sloAbx w => [0x1F#8, operandLo w, operandHi w]
  | .jsr w => [0x20#8, operandLo w, operandHi w]
  | .andIzx nn => [0x21#8, nn]
  | .hole22 => [0x22#8]
  | .rlaIzx nn => [0x23#8, nn]
  | .bitZp nn => [0x24#8, nn]
  | .andZp nn => [0x25#8, nn]
  | .rolZp nn => [0x26#8, nn]
  | .rlaZp nn => [0x27#8, nn]
  | .plp => [0x28#8]
  | .andImm nn => [0x29#8, nn]
  | .rolAcc => [0x2A#8]
  | .hole2B => [0x2B#8]
  | .bitAbs w => [0x2C#8, operandLo w, operandHi w]
  | .andAbs w => [0x2D#8, operandLo w, operandHi w]
  | .rolAbs w => [0x2E#8, operandLo w, operandHi w]
  | .rlaAbs w => [0x2F#8, operandLo w, operandHi w]
  | .bmi nn => [0x30#8, nn]
  | .andIzy nn => [0x31#8, nn]
  | .hole32 => [0x32#8]
  | .rlaIzy nn => [0x33#8, nn]
  | .hole34 => [0x34#8]
  | .andZpx nn => [0x35#8, nn]
  | .rolZpx nn => [0x36#8, nn]
  | .rlaZpx nn => [0x37#8, nn]
  | .sec => [0x38#8]
  | .andAby w => [0x39#8, operandLo w, operandHi w]
  | .hole3A => [0x3A#8]
  | .rlaAby w => [0x3B#8, operandLo w, operandHi w]
  | .hole3C => [0x3C#8]
  | .andAbx w => [0x3D#8, operandLo w, operandHi w]
  | .rolAbx w => [0x3E#8, operandLo w, operandHi w]
  | .rlaAbx w => [0x3F#8, operandLo w, operandHi w]
  | .rti => [0x40#8]
  | .eorIzx nn => [0x41#8, nn]
  | .hole42 => [0x42#8]
  | .sreIzx nn => [0x43#8, nn]
  | .hole44 => [0x44#8]
  | .eorZp nn => [0x45#8, nn]
  | .lsrZp nn => [0x46#8, nn]
  | .sreZp nn => [0x47#8, nn]
  | .pha => [0x48#8]
  | .eorImm nn => [0x49#8, nn]
  | .lsrAcc => [0x4A#8]
  | .hole4B => [0x4B#8]
  | .jmpAbs w => [0x4C#8, operandLo w, operandHi w]
  | .eorAbs w => [0x4D#8, operandLo w, operandHi w]
  | .lsrAbs w => [0x4E#8, operandLo w, operandHi w]
  | .sreAbs w => [0x4F#8, operandLo w, operandHi w]
  | .bvc nn => [0x50#8, nn]
  | .eorIzy nn => [0x51#8, nn]
  | .hole52 => [0x52#8]
  | .sreIzy nn => [0x53#8, nn]
  | .hole54 => [0x54#8]
  | .eorZpx nn => [0x55#8, nn]
  | .lsrZpx nn => [0x56#8, nn]
  | .sreZpx nn => [0x57#8, nn]
  | .cli => [0x58#8]
  | .eorAby w => [0x59#8, operandLo w, operandHi w]
  | .hole5A => [0x5A#8]
  | .sreAby w => [0x5B#8, operandLo w, operandHi w]
  | .hole5C => [0x5C#8]
  | .eorAbx w => [0x5D#8, operandLo w, operandHi w]
  | .lsrAbx w => [0x5E#8, operandLo w, operandHi w]
  | .sreAbx w => [0x5F#8, operandLo w, operandHi w]
  | .rts => [0x60#8]
  | .adcIzx nn => [0x61#8, nn]
  | .hole62 => [0x62#8]
  | .rraIzx nn => [0x63#8, nn]
  | .hole64 => [0x64#8]
  | .adcZp nn => [0x65#8, nn]
  | .rorZp nn => [0x66#8, nn]
  | .rraZp nn => [0x67#8, nn]
  | .pla => [0x68#8]
  | .adcImm nn => [0x69#8, nn]
  | .rorAcc => [0x6A#8]
  | .hole6B => [0x6B#8]
  | .jmpInd w => [0x6C#8, operandLo w, operandHi w]
  | .adcAbs w => [0x6D#8, operandLo w, operandHi w]
  | .rorAbs w => [0x6E#8, operandLo w, operandHi w]
  | .rraAbs w => [0x6F#8, operandLo w, operandHi w]
  | .bvs nn => [0x70#8, nn]
  | .adcIzy nn => [0x71#8, nn]
  | .hole72 => [0x72#8]
  | .rraIzy nn => [0x73#8, nn]
  | .hole74 => [0x74#8]
  | .adcZpx nn => [0x75#8, nn]
  | .rorZpx nn => [0x76#8, nn]
  | .rraZpx nn => [0x77#8, nn]
  | .sei => [0x78#8]
  | .adcAby w => [0x79#8, operandLo w, operandHi w]
  | .hole7A => [0x7A#8]
  | .rraAby w => [0x7B#8, operandLo w, operandHi w]
  | .hole7C => [0x7C#8]
  | .adcAbx w => [0x7D#8, operandLo w, operandHi w]
  | .rorAbx w => [0x7E#8, operandLo w, operandHi w]
  | .rraAbx w => [0x7F#8, operandLo w, operandHi w]
  | .hole80 => [0x80#8]
  | .staIzx nn => [0x81#8, nn]
  | .hole82 => [0x82#8]
  | .saxIzx nn => [0x83#8, nn]
  | .styZp nn => [0x84#8, nn]
  | .staZp nn => [0x85#8, nn]
  | .stxZp nn => [0x86#8, nn]
  | .saxZp nn => [0x87#8, nn]
  | .dey => [0x88#8]
  | .hole89 => [0x89#8]
  | .txa => [0x8A#8]
  | .hole8B => [0x8B#8]
  | .styAbs w => [0x8C#8, operandLo w, operandHi w]
  | .staAbs w => [0x8D#8, operandLo w, operandHi w]
  | .stxAbs w => [0x8E#8, operandLo w, operandHi w]
  | .saxAbs w => [0x8F#8, operandLo w, operandHi w]
  | .bcc nn => [0x90#8, nn]
  | .staIzy nn => [0x91#8, nn]
  | .hole92 => [0x92#8]
  | .hole93 => [0x93#8]
  | .styZpx nn => [0x94#8, nn]
  | .staZpx nn => [0x95#8, nn]
  | .stxZpy nn => [0x96#8, nn]
  | .saxZpy nn => [0x97#8, nn]
  | .tya => [0x98#8]
  | .staAby w => [0x99#8, operandLo w, operandHi w]
  | .txs => [0x9A#8]
  | .hole9B => [0x9B#8]
  | .hole9C => [0x9C#8]
  | .staAbx w => [0x9D#8, operandLo w, operandHi w]
  | .hole9E => [0x9E#8]
  | .hole9F => [0x9F#8]
  | .ldyImm nn => [0xA0#8, nn]
  | .ldaIzx nn => [0xA1#8, nn]
  | .ldxImm nn => [0xA2#8, nn]
  | .laxIzx nn => [0xA3#8, nn]
  | .ldyZp nn => [0xA4#8, nn]
  | .ldaZp nn => [0xA5#8, nn]
  | .ldxZp nn => [0xA6#8, nn]
  | .laxZp nn => [0xA7#8, nn]
  | .tay => [0xA8#8]
  | .ldaImm nn => [0xA9#8, nn]
  | .tax => [0xAA#8]
  | .holeAB => [0xAB#8]
  | .ldyAbs w => [0xAC#8, operandLo w, operandHi w]
  | .ldaAbs w => [0xAD#8, operandLo w, operandHi w]
  | .ldxAbs w => [0xAE#8, operandLo w, operandHi w]
  | .laxAbs w => [0xAF#8, operandLo w, operandHi w]
  | .bcs nn => [0xB0#8, nn]
  | .ldaIzy nn => [0xB1#8, nn]
  | .holeB2 => [0xB2#8]
  | .laxIzy nn => [0xB3#8, nn]
  | .ldyZpx nn => [0xB4#8, nn]
  | .ldaZpx nn => [0xB5#8, nn]
  | .ldxZpy nn => [0xB6#8, nn]
  | .laxZpy nn => [0xB7#8, nn]
  | .clv => [0xB8#8]
  | .ldaAby w => [0xB9#8, operandLo w, operandHi w]
  | .tsx => [0xBA#8]
  | .holeBB => [0xBB#8]
  | .ldyAbx w => [0xBC#8, operandLo w, operandHi w]
  | .ldaAbx w => [0xBD#8, operandLo w, operandHi w]
  | .ldxAby w => [0xBE#8, operandLo w, operandHi w]
  | .laxAby w => [0xBF#8, operandLo w, operandHi w]
  | .cpyImm nn => [0xC0#8, nn]
  | .cmpIzx nn => [0xC1#8, nn]
  | .holeC2 => [0xC2#8]
  | .dcpIzx nn => [0xC3#8, nn]
  | .cpyZp nn => [0xC4#8, nn]
  | .cmpZp nn => [0xC5#8, nn]
  | .decZp nn => [0xC6#8, nn]
  | .dcpZp nn => [0xC7#8, nn]
  | .iny => [0xC8#8]
  | .cmpImm nn => [0xC9#8, nn]
  | .dex => [0xCA#8]
  | .holeCB => [0xCB#8]
  | .cpyAbs w => [0xCC#8, operandLo w, operandHi w]
  | .cmpAbs w => [0xCD#8, operandLo w, operandHi w]
  | .decAbs w => [0xCE#8, operandLo w, operandHi w]
  | .dcpAbs w => [0xCF#8, operandLo w, operandHi w]
  | .bne nn => [0xD0#8, nn]
  | .cmpIzy nn => [0xD1#8, nn]
  | .holeD2 => [0xD2#8]
  | .dcpIzy nn => [0xD3#8, nn]
  | .holeD4 => [0xD4#8]
  | .cmpZpx nn => [0xD5#8, nn]
  | .decZpx nn => [0xD6#8, nn]
  | .dcpZpx nn => [0xD7#8, nn]
  | .cld => [0xD8#8]
  | .cmpAby w => [0xD9#8, operandLo w, operandHi w]
  | .holeDA => [0xDA#8]
  | .dcpAby w => [0xDB#8, operandLo w, operandHi w]
  | .holeDC => [0xDC#8]
  | .cmpAbx w => [0xDD#8, operandLo w, operandHi w]
  | .decAbx w => [0xDE#8, operandLo w, operandHi w]
  | .dcpAbx w => [0xDF#8, operandLo w, operandHi w]
  | .cpxImm nn => [0xE0#8, nn]
  | .sbcIzx nn => [0xE1#8, nn]
  | .holeE2 => [0xE2#8]
  | .isbIzx nn => [0xE3#8, nn]
  | .cpxZp nn => [0xE4#8, nn]
  | .sbcZp nn => [0xE5#8, nn]
  | .incZp nn => [0xE6#8, nn]
  | .isbZp nn => [0xE7#8, nn]
  | .inx => [0xE8#8]
  | .sbcImm nn => [0xE9#8, nn]
  | .nop => [0xEA#8]
  | .holeEB => [0xEB#8]
  | .cpxAbs w => [0xEC#8, operandLo w, operandHi w]
  | .sbcAbs w => [0xED#8, operandLo w, operandHi w]
  | .incAbs w => [0xEE#8, operandLo w, operandHi w]
  | .isbAbs w => [0xEF#8, operandLo w, operandHi w]
  | .beq nn => [0xF0#8, nn]
  | .sbcIzy nn => [0xF1#8, nn]
  | .holeF2 => [0xF2#8]
  | .isbIzy nn => [0xF3#8, nn]
  | .holeF4 => [0xF4#8]
  | .sbcZpx nn => [0xF5#8, nn]
  | .incZpx nn => [0xF6#8, nn]
  | .isbZpx nn => [0xF7#8, nn]
  | .sed => [0xF8#8]
  | .sbcAby w => [0xF9#8, operandLo w, operandHi w]
  | .holeFA => [0xFA#8]
  | .isbAby w => [0xFB#8, operandLo w, operandHi w]
  | .holeFC => [0xFC#8]
  | .sbcAbx w => [0xFD#8, operandLo w, operandHi w]
  | .incAbx w => [0xFE#8, operandLo w, operandHi w]
  | .isbAbx w => [0xFF#8, operandLo w, operandHi w]

/-- The opcode byte of an instruction. -/
def Instr.opcode (i : Instr) : Byte := (encode i).headD 0

/-- The metadata row of an instruction (10_state.md R35). -/
def Instr.row (i : Instr) : OpRow := opTable i.opcode

/-- The operation id of an instruction: which mnemonic of 30_encoding.md R141 it is, or a hole. -/
def Instr.op (i : Instr) : Op := i.row.op

/-- The addressing mode of an instruction. -/
def Instr.mode (i : Instr) : Mode := i.row.mode

end Sys2Proof
end

