-- ==== Sys2Proof/Machine/Fetch.lean ====
section
/-! DEFINITION. Fetching an instruction (30_encoding.md R120, R121), and placing one where the next fetch reads (log 10). -/

namespace Sys2Proof.Machine

/-- Fetches the opcode byte and the operand bytes of its format, in ascending address order, through the bus (R120, R121). `cur`
holds the bytes fetched (10_state.md R34). -/
def fetchInstr (s : State) : Instr × State :=
  let op := fetch8 s
  match (opTable op.1).format with
  | .f1 i => (i, { op.2 with cur := [op.1] })
  | .f2 make =>
    let nn := fetch8 op.2
    (make nn.1, { nn.2 with cur := [op.1, nn.1] })
  | .f3 make =>
    let ll := fetch8 op.2
    let hh := fetch8 ll.2
    (make (operand16 ll.1 hh.1), { hh.2 with cur := [op.1, ll.1, hh.1] })

/-- Whether an address is backed by a store that can hold program text: RAM, WRAM, PRG ROM (20_memory.md R71). -/
def isProgramAddr (a : Addr) : Bool := a ≤ 0x1FFF#16 || 0x6000#16 ≤ a

/-- Puts a byte of program text where a fetch at an address reads: into RAM, WRAM, or the PRG data behind the bank view (log 10). -/
def placeByte (a : Addr) (v : Byte) (s : State) : State :=
  if a ≤ 0x1FFF#16 then { s with ram := Memory.write s.ram (a.toNat % 2048) v }
  else if a < 0x8000#16 then { s with wram := Memory.write s.wram (a.toNat - 0x6000) v }
  else { s with cfg := { s.cfg with cart := { s.cfg.cart with prg := Memory.write s.cfg.cart.prg (prgOffset s a) v } } }

/-- Makes the next tick an instruction boundary that takes no interrupt: nothing owed, no DMA, no host operation, no request that the
poll would take (10_state.md R37). -/
def atBoundary (s : State) : State :=
  { s with
    idle := 0, dma := { s.dma with active := false }, nmiPending := false, irqPending := s.irqPending && hasFlag flagI s.p,
    host := { s.host with script := match s.host.script with
      | [] => []
      | _ :: rest => [] :: rest } }

/-- `PC`, moved to $0000 where the three bytes at it cannot all hold program text. -/
def atProgramAddr (s : State) : State :=
  if isProgramAddr s.pc && isProgramAddr (s.pc + 1#16) && isProgramAddr (s.pc + 2#16) then s else { s with pc := 0x0000#16 }

/-- Three bytes stored where the next tick fetches its instruction, so that it fetches and runs exactly that one (log 10). -/
def placeInstr (b0 b1 b2 : Byte) (s : State) : State :=
  let s := atProgramAddr (atBoundary s)
  placeByte (s.pc + 2#16) b2 (placeByte (s.pc + 1#16) b1 (placeByte s.pc b0 s))

end Sys2Proof.Machine
end

