-- ==== Sys2Proof/Machine/Ppu.lean ====
section
/-! DEFINITION. The PPU's state machine (51_ppu.md R370 to R434): the background pipeline, sprite evaluation and fetch, the pixel
compositor, and one dot. -/

namespace Sys2Proof.Machine

/-- The state with another PPU. -/
def setPpu (p : Ppu) (s : State) : State := { s with ppu := p }

/-- "Rendering is enabled" (R353). -/
def rendering (p : Ppu) : Bool := p.mask.getLsbD 3 || p.mask.getLsbD 4

/-! The background pipeline -/

/-- `ShiftBg()` (R391). -/
def shiftBg (p : Ppu) : Ppu :=
  { p with shPatLo := p.shPatLo <<< 1, shPatHi := p.shPatHi <<< 1, shAtLo := p.shAtLo <<< 1, shAtHi := p.shAtHi <<< 1 }

/-- A low half entering a shift register (R392). -/
def reloadLow (low : Byte) (r : BitVec 16) : BitVec 16 := (r &&& 0xFF00#16) ||| low.setWidth 16

/-- A selector bit repeated over a byte (R392). -/
def spread (b : Bool) : Byte := if b then 0xFF#8 else 0x00#8

/-- `ReloadBg()` (R392). -/
def reloadBg (p : Ppu) : Ppu :=
  { p with
    shPatLo := reloadLow p.bgLo p.shPatLo, shPatHi := reloadLow p.bgHi p.shPatHi,
    shAtLo := reloadLow (spread (p.bgAt.getLsbD 0)) p.shAtLo, shAtHi := reloadLow (spread (p.bgAt.getLsbD 1)) p.shAtHi }

/-- The address of `FetchNt()` (R393). -/
def ntFetchAddr (v : BitVec 15) : Addr := 0x2000#16 ||| (v.setWidth 16 &&& 0x0FFF#16)

/-- The address of `FetchAt()` (R393). -/
def atFetchAddr (v : BitVec 15) : Addr :=
  let w : Addr := v.setWidth 16
  0x23C0#16 ||| (w &&& 0x0C00#16) ||| ((w >>> 4) &&& 0x0038#16) ||| ((w >>> 2) &&& 0x0007#16)

/-- The two selector bits of an attribute byte for the quadrant of `v` (R393). -/
def atSelect (v : BitVec 15) (b : Byte) : BitVec 2 :=
  let b := if v.getLsbD 6 then b >>> 4 else b
  let b := if v.getLsbD 1 then b >>> 2 else b
  b.setWidth 2

/-- The address of `FetchLo()`; `FetchHi()` adds 8 (R393). -/
def patFetchAddr (p : Ppu) : Addr :=
  (if p.ctrl.getLsbD 4 then 0x1000#16 else 0x0000#16) ||| (p.bgNt.setWidth 16 <<< 4) ||| (p.v.setWidth 16 >>> 12)

/-- The four fetches (R393). -/
def fetchNt (s : State) : State := setPpu { s.ppu with bgNt := ppuRead (ntFetchAddr s.ppu.v) s } s
def fetchAt (s : State) : State := setPpu { s.ppu with bgAt := atSelect s.ppu.v (ppuRead (atFetchAddr s.ppu.v) s) } s
def fetchLo (s : State) : State := setPpu { s.ppu with bgLo := ppuRead (patFetchAddr s.ppu) s } s
def fetchHi (s : State) : State := setPpu { s.ppu with bgHi := ppuRead (patFetchAddr s.ppu ||| 0x0008#16) s } s

/-- `IncX()` (R394). -/
def incX (v : BitVec 15) : BitVec 15 :=
  if v &&& 0x001F#15 = 0x001F#15 then (v &&& 0x7FE0#15) ^^^ 0x0400#15 else v + 0x0001#15

/-- `IncY()` (R395). -/
def incY (v : BitVec 15) : BitVec 15 :=
  if v &&& 0x7000#15 = 0x7000#15 then
    let v := v &&& 0x0FFF#15
    if v &&& 0x03E0#15 = 0x03A0#15 then (v &&& 0x7C1F#15) ^^^ 0x0800#15
    else if v &&& 0x03E0#15 = 0x03E0#15 then v &&& 0x7C1F#15
    else v + 0x0020#15
  else v + 0x1000#15

/-- `CopyX()` (R396): `v[10]` and `v[4:0]` from `t`. -/
def copyX (t v : BitVec 15) : BitVec 15 := blend 0x041F#15 t v

/-- `CopyY()` (R397): `v[14:11]` and `v[9:5]` from `t`. -/
def copyY (t v : BitVec 15) : BitVec 15 := blend 0x7BE0#15 t v

/-- The dots at which the shifters shift, at which they reload, and at which a tile is fetched (R390). -/
def isShiftDot (d : Nat) : Bool := (2 ≤ d && d ≤ 257) || (322 ≤ d && d ≤ 337)
def isReloadDot (d : Nat) : Bool := d % 8 == 1 && ((9 ≤ d && d ≤ 257) || d == 329 || d == 337)
def isFetchDot (d : Nat) : Bool := (1 ≤ d && d ≤ 256) || (321 ≤ d && d ≤ 336)

/-- The fetch or the coarse-X increment of a fetch dot (R390). -/
def bgFetch (d : Nat) (s : State) : State :=
  match (d - 1) % 8 with
  | 0 => fetchNt s
  | 2 => fetchAt s
  | 4 => fetchLo s
  | 6 => fetchHi s
  | 7 => setPpu { s.ppu with v := incX s.ppu.v } s
  | _ => s

/-- The changes of `v` at dot 256, at dot 257, and at dots 280 to 304 of the pre-render line (R390, R395 to R397). -/
def bgScroll (line d : Nat) (p : Ppu) : Ppu :=
  if d = 256 then { p with v := incY p.v }
  else if d = 257 then { p with v := copyX p.t p.v }
  else if line = 261 ∧ 280 ≤ d ∧ d ≤ 304 then { p with v := copyY p.t p.v }
  else p

/-- `BgStep(s, d)` (R390). -/
def bgStep (line d : Nat) (s : State) : State :=
  let s := if isShiftDot d then setPpu (shiftBg s.ppu) s else s
  let s := if isReloadDot d then setPpu (reloadBg s.ppu) s else s
  let s := if isFetchDot d then bgFetch d s else s
  setPpu (bgScroll line d s.ppu) s

/-! Sprites -/

/-- Sprite height `h` (R411). -/
def spriteHeight (p : Ppu) : Nat := if p.ctrl.getLsbD 5 then 16 else 8

/-- The slot that OAM entry `n` fills (R412). -/
def slotOf (oam : Memory 8) (n : Nat) : SpriteSlot :=
  { y := Memory.read oam (4 * n), tile := Memory.read oam (4 * n + 1), attr := Memory.read oam (4 * n + 2),
    x := Memory.read oam (4 * n + 3), patLo := 0, patHi := 0, isZero := n == 0 }

/-- Whether a sprite with Y byte `y` and height `h` is in range of a line (R412). DESIGN CHOICE (log 17): Y = $EF is in range of line
239, as R412's pseudocode has it; R412's last sentence says that Y in $EF..$FF never matches a visible line. -/
def inRange (line h : Nat) (y : Byte) : Bool := y.toNat ≤ line && line < y.toNat + h

/-- One turn of the loop of `SpriteEval(s)` (R412): fill a slot, or set the overflow flag (R413). -/
def evalSprite (line : Nat) (p : Ppu) (n : Nat) : Ppu :=
  if inRange line (spriteHeight p) (Memory.read p.oam (4 * n)) then
    if p.sprNext.length < 8 then { p with sprNext := p.sprNext ++ [slotOf p.oam n] }
    else { p with overflow := true }
  else p

/-- `SpriteEval(s)` (R412). -/
def spriteEval (line : Nat) (p : Ppu) : Ppu :=
  (List.range 64).foldl (evalSprite line) { p with sprNext := [] }

/-- The row of a sprite on a line, a byte as R11 has it (R414, log 9). -/
def spriteRow (p : Ppu) (line : Nat) (e : SpriteSlot) : Byte :=
  let r := BitVec.ofNat 8 line - e.y
  if e.attr.getLsbD 7 then BitVec.ofNat 8 (spriteHeight p - 1) - r else r

/-- `SpriteRowAddr(i, s)` (R414). -/
def spriteRowAddr (p : Ppu) (line : Nat) (e : SpriteSlot) : Addr :=
  let r := spriteRow p line e
  if p.ctrl.getLsbD 5 then
    let t := (e.tile &&& 0xFE#8) ||| (if r.toNat ≥ 8 then 1#8 else 0#8)
    ((e.tile &&& 1#8).setWidth 16 <<< 12) ||| (t.setWidth 16 <<< 4) ||| (r &&& 7#8).setWidth 16
  else (if p.ctrl.getLsbD 3 then 0x1000#16 else 0x0000#16) ||| (e.tile.setWidth 16 <<< 4) ||| r.setWidth 16

/-- `Flip(b, f)` (R414). -/
def flipIf (f : Bool) (b : Byte) : Byte := if f then reverse8 b else b

/-- `SpriteFetchLo(i, s)` and `SpriteFetchHi(i, s)` on a slot (R414). -/
def fetchSlotLo (line : Nat) (s : State) (e : SpriteSlot) : SpriteSlot :=
  { e with patLo := flipIf (e.attr.getLsbD 6) (ppuRead (spriteRowAddr s.ppu line e) s) }
def fetchSlotHi (line : Nat) (s : State) (e : SpriteSlot) : SpriteSlot :=
  { e with patHi := flipIf (e.attr.getLsbD 6) (ppuRead (spriteRowAddr s.ppu line e ||| 0x0008#16) s) }

/-- Changes the slot at an index, where there is one. -/
def modifySlot (f : SpriteSlot → SpriteSlot) : Nat → List SpriteSlot → List SpriteSlot
  | _, [] => []
  | 0, e :: rest => f e :: rest
  | i + 1, e :: rest => e :: modifySlot f i rest

/-- `SpriteStep(s, d)` (R410). A slot index at or past the count names no slot, so it fetches nothing. -/
def spriteStep (line d : Nat) (s : State) : State :=
  if d = 257 then setPpu (spriteEval line s.ppu) s
  else if 261 ≤ d ∧ d ≤ 320 then
    match (d - 261) % 8 with
    | 0 => setPpu { s.ppu with sprNext := modifySlot (fetchSlotLo line s) ((d - 261) / 8) s.ppu.sprNext } s
    | 2 => setPpu { s.ppu with sprNext := modifySlot (fetchSlotHi line s) ((d - 261) / 8) s.ppu.sprNext } s
    | _ => s
  else s

/-! Compositing -/

/-- Two bits as a number, `(hi << 1) | lo`. -/
def pair (hi lo : Bool) : Nat := 2 * hi.toNat + lo.toNat

/-- The background pixel and its palette (R398). -/
def bgPixel (p : Ppu) : Nat × Nat :=
  let sel := 15 - p.x.toNat
  (pair (p.shPatHi.getLsbD sel) (p.shPatLo.getLsbD sel), pair (p.shAtHi.getLsbD sel) (p.shAtLo.getLsbD sel))

/-- A sprite's candidate pixel (R415). `pix = 0` is transparent. -/
structure SpritePixel where
  pix    : Nat
  pal    : Nat
  behind : Bool
  zero   : Bool
  deriving DecidableEq, Repr

/-- No sprite pixel. -/
def noSprite : SpritePixel := { pix := 0, pal := 0, behind := false, zero := false }

/-- The two pattern bits of a slot at column `px`, 0 outside the slot's eight columns (R415). -/
def slotPixel (px : Nat) (e : SpriteSlot) : Nat :=
  if e.x.toNat ≤ px ∧ px < e.x.toNat + 8 then
    let b := 7 - (px - e.x.toNat)
    pair (e.patHi.getLsbD b) (e.patLo.getLsbD b)
  else 0

/-- `SpritePixel(px)` (R415): the first slot with an opaque pixel. -/
def spritePixel (px : Nat) : List SpriteSlot → SpritePixel
  | [] => noSprite
  | e :: rest =>
    if slotPixel px e ≠ 0 then
      { pix := slotPixel px e, pal := pair (e.attr.getLsbD 1) (e.attr.getLsbD 0), behind := e.attr.getLsbD 5, zero := e.isZero }
    else spritePixel px rest

/-- The background candidate at a column, clipped and enabled by PPUMASK (R430). -/
def bgCandidate (p : Ppu) (px : Nat) : Nat × Nat :=
  if p.mask.getLsbD 3 && (8 ≤ px || p.mask.getLsbD 1) then bgPixel p else (0, 0)

/-- The sprite candidate at a column, clipped and enabled by PPUMASK (R430). -/
def spriteCandidate (p : Ppu) (px : Nat) : SpritePixel :=
  if p.mask.getLsbD 4 && (8 ≤ px || p.mask.getLsbD 2) then spritePixel px p.sprCur else noSprite

/-- The palette index of a dot (R430, R431). -/
def pixelIndex (bg : Nat × Nat) (sp : SpritePixel) : Nat :=
  if sp.pix ≠ 0 ∧ (bg.1 = 0 ∨ sp.behind = false) then 16 + 4 * sp.pal + sp.pix
  else if bg.1 ≠ 0 then 4 * bg.2 + bg.1
  else 0

/-- Whether a dot is a sprite-0 hit (R432). -/
def isSpriteZeroHit (px : Nat) (bg : Nat × Nat) (sp : SpritePixel) : Bool :=
  bg.1 ≠ 0 && sp.pix ≠ 0 && sp.zero && px ≠ 255

/-- The 6-bit colour of a palette index, greyscale applied (R430, R433). -/
def colourNumber (p : Ppu) (idx : Nat) : BitVec 6 :=
  let c := Memory.read p.palette (palIndex (BitVec.ofNat 16 idx))
  if p.mask.getLsbD 0 then c &&& 0x30#6 else c

/-- `PALETTE[c]` (00_scope.md R9). -/
def colour (cfg : Config) (c : BitVec 6) : Rgb := Memory.read cfg.colours c.toNat

/-- Where a pixel lies in `fb` (10_state.md R51). -/
def fbIndex (line px : Nat) : Nat := line * 256 + px

/-- `Compose(s, px)` (R430). -/
def compose (line px : Nat) (s : State) : State :=
  let p := s.ppu
  let bg := bgCandidate p px
  let sp := spriteCandidate p px
  setPpu { p with
    spr0hit := p.spr0hit || isSpriteZeroHit px bg sp,
    fb := Memory.write p.fb (fbIndex line px) (colour s.cfg (colourNumber p (pixelIndex bg sp))) } s

/-! One dot -/

/-- The events of (241,1) (R373, R371) and (261,1) (R374). -/
def vblankStart (s : State) : State :=
  { s with ppu := { s.ppu with vblank := true, frameDone := true }, nmiPending := s.nmiPending || s.ppu.ctrl.getLsbD 7 }
def flagsClear (s : State) : State :=
  { s with ppu := { s.ppu with vblank := false, spr0hit := false, overflow := false } }

/-- The events of a position (R380). -/
def dotEvents (line d : Nat) (s : State) : State :=
  if line = 241 ∧ d = 1 then vblankStart s
  else if line = 261 ∧ d = 1 then flagsClear s
  else s

/-- `Advance()` (R381). -/
def advance (p : Ppu) : Ppu :=
  if p.dot + 1 = 341 then
    { p with dot := 0, sprCur := p.sprNext, sprNext := [],
             scanline := if p.scanline + 1 = 262 then 0 else p.scanline + 1 }
  else { p with dot := p.dot + 1 }

/-- The work of a dot at position `(line, d)`, before the position advances (R380). -/
def dotWork (line d : Nat) (s : State) : State :=
  let on := rendering s.ppu
  let s := dotEvents line d s
  let s := if (line ≤ 239 ∨ line = 261) ∧ on then bgStep line d s else s
  let s := if line ≤ 239 ∧ 1 ≤ d ∧ d ≤ 256 then compose line (d - 1) s else s
  if line ≤ 239 ∧ on then spriteStep line d s else s

/-- `PpuDot()` (R380). -/
def ppuDot (s : State) : State :=
  let s := dotWork s.ppu.scanline s.ppu.dot s
  setPpu (advance s.ppu) s

/-- The frame buffer accessor (50_bus_devices.md R345): the pixel of a row and a column. -/
def pixel (s : State) (row col : Nat) : Rgb := Memory.read s.ppu.fb (fbIndex row col)

end Sys2Proof.Machine
end

