-- ==== Sys2Proof/WellFormed.lean ====
section
/-! DEFINITION. Well-formedness. Every operand field of `Instr` is a whole byte or a whole 16-bit word, and the encoding admits every
value of it (30_encoding.md R122, R124), so no term of `Instr` is ill formed and no instruction needs a check. What has checks is the
cartridge configuration (00_scope.md R8, 52_mappers.md R455) and the launch memories. -/

namespace Sys2Proof

/-- The canonical form of a store of `size` cells: addresses strictly rising, every address below `size`, no entry equal to zero
(log 3). -/
abbrev Memory.wf {w : Nat} (size : Nat) (m : Memory w) : Prop :=
  m.Pairwise (fun c d => c.1 < d.1) ∧ ∀ c ∈ m, c.1 < size ∧ c.2 ≠ 0#w

/-- A mirroring mode a header can name (00_scope.md R8). -/
def Mirroring.inHeader : Mirroring → Bool
  | .horizontal | .vertical | .fourScreen => true
  | .singleLow | .singleHigh => false

/-- The legal values of the configuration record (00_scope.md R8): `prg_banks` 1..255, `chr_banks` 0..255, a mirroring mode of the
header, `prg_ram_units` 1..255, and as many ROM bytes as the banks hold. -/
abbrev Cart.wf (c : Cart) : Prop :=
  (1 ≤ c.prgBanks ∧ c.prgBanks ≤ 255) ∧ c.chrBanks ≤ 255 ∧ c.mirroring.inHeader = true ∧
  (1 ≤ c.prgRamUnits ∧ c.prgRamUnits ≤ 255) ∧
  Memory.wf (prgBankSize * c.prgBanks) c.prg ∧ Memory.wf (chrBankSize * c.chrBanks) c.chr

/-- A well-formed launch: a legal cartridge, 64 colours, 2048 bytes of `RAM_INIT`, 8192 bytes of `WRAM_INIT` (00_scope.md R9). -/
abbrev Launch.wf (l : Launch) : Prop :=
  l.cfg.cart.wf ∧ Memory.wf colourCount l.cfg.colours ∧ Memory.wf ramSize l.ramInit ∧ Memory.wf wramSize l.wramInit

end Sys2Proof
end

