-- ==== Sys2Proof/Machine/Reset.lean ====
section
/-! DEFINITION. Reset, power-up and loading a cartridge file (70_reset_and_hazards.md R560 to R562; 52_mappers.md R451, R455). -/

namespace Sys2Proof.Machine

/-- Steps 2 to 5 of `reset()` (R560): cartridge and mapper, bus devices, PPU, CPU. The memories and the host's side are kept. -/
def resetRegisters (s : State) : State :=
  { s with
    mirroring := s.cfg.cart.mirroring, mapper := mapperReset s.cfg.cart.mapper,
    dma := Dma.reset, pad := Pad.reset, apu := [],
    ppu := Ppu.reset (Memory.fill fbSize (colour s.cfg 0#6)),
    a := 0x00#8, x := 0x00#8, y := 0x00#8, s := 0xFD#8, p := 0x24#8, cycles := resetCycles, idle := 0,
    irqPending := false, nmiPending := false, cur := [] }

/-- `reset()` at a later time (R560): `resetRegisters`, then `PC <- Read16($FFFC)` through the bus. -/
def warmReset (s : State) : State :=
  let r := read16 resetVector (resetRegisters s)
  { r.2 with pc := r.1 }

/-- `load`'s installation of the launch-state memories, then `reset()` (R560, 50_bus_devices.md R345). The host holds no button and
has no script. -/
def powerUp (l : Launch) : State :=
  warmReset { State.reset with cfg := l.cfg, ram := l.ramInit, wram := l.wramInit, chrRam := [] }

/-- The header's mapper numbers (52_mappers.md R450). -/
def mapperOfNumber : Nat → Option MapperKind
  | 0 => some .nrom
  | 1 => some .sxrom
  | 4 => some .txrom
  | _ => none

/-- Byte `i` of a file, zero past its end. -/
def fileByte (file : List Byte) (i : Nat) : Byte := file.getD i 0#8

/-- The sizes a header names: the offset of the PRG data, and the lengths of the PRG and the CHR data (52_mappers.md R451). -/
def prgFileOffset (file : List Byte) : Nat := 16 + if (fileByte file 6).getLsbD 2 then 512 else 0
def prgFileSize (file : List Byte) : Nat := prgBankSize * (fileByte file 4).toNat
def chrFileSize (file : List Byte) : Nat := chrBankSize * (fileByte file 5).toNat

/-- The header's mapper number (52_mappers.md R451). -/
def mapperNumber (file : List Byte) : Nat :=
  ((fileByte file 7 &&& 0xF0#8) ||| (fileByte file 6 >>> 4)).toNat

/-- From the file to `Cart` (52_mappers.md R451), the mapper's kind given. -/
def cartOfFile (file : List Byte) (kind : MapperKind) : Cart :=
  { prgBanks := (fileByte file 4).toNat, chrBanks := (fileByte file 5).toNat,
    mirroring := if (fileByte file 6).getLsbD 3 then .fourScreen
      else if (fileByte file 6).getLsbD 0 then .vertical else .horizontal,
    battery := (fileByte file 6).getLsbD 1, trainer := (fileByte file 6).getLsbD 2, mapper := kind,
    prgRamUnits := if fileByte file 8 = 0#8 then 1 else (fileByte file 8).toNat,
    prg := Memory.ofList 0 ((file.drop (prgFileOffset file)).take (prgFileSize file)),
    chr := Memory.ofList 0 ((file.drop (prgFileOffset file + prgFileSize file)).take (chrFileSize file)) }

/-- `load` (52_mappers.md R451, R455): the machine right after power-up with the file's cartridge, or a refusal by name (log 12). -/
def loadFile (file : List Byte) (ramInit wramInit : Memory 8) (colours : Memory 24) : Result :=
  if file.take 4 ≠ [0x4E#8, 0x45#8, 0x53#8, 0x1A#8] then .refused .badMagic
  else if fileByte file 9 ≠ 0#8 then .refused .headerByte9
  else
    match mapperOfNumber (mapperNumber file) with
    | none => .refused (.unknownMapper (mapperNumber file))
    | some kind =>
      if fileByte file 4 = 0#8 then .refused .noPrgBanks
      else if file.length < prgFileOffset file + prgFileSize file + chrFileSize file then .refused .shortFile
      else .next (powerUp { cfg := { cart := cartOfFile file kind, colours := colours }, ramInit := ramInit, wramInit := wramInit })

end Sys2Proof.Machine
end

