-- ==== Sys2Proof/Machine/HostOps.lean ====
section
/-! DEFINITION. The host's operations between ticks (50_bus_devices.md R330, R345; 60_exceptions.md R521) and its turn before a tick
(log 6). -/

namespace Sys2Proof.Machine

/-- `pull_irq()`: `raise Irq` (60_exceptions.md R521). -/
def pullIrq (s : State) : State := { s with irqPending := true }

/-- `pull_nmi()`: `raise Nmi` (60_exceptions.md R521). -/
def pullNmi (s : State) : State := { s with nmiPending := true }

/-- "button press/release injection" (50_bus_devices.md R330). -/
def setButtons (b : Byte) (s : State) : State := { s with host := { s.host with buttons := b } }

/-- `grab_frame_done()`: the host reads `ppu.frameDone` and this clears it (50_bus_devices.md R345). -/
def grabFrameDone (s : State) : State := { s with ppu := { s.ppu with frameDone := false } }

/-- One operation of the host (50_bus_devices.md R345). -/
def hostOp (o : HostOp) (s : State) : State :=
  match o with
  | .reset => warmReset s
  | .setButtons b => setButtons b s
  | .pullIrq => pullIrq s
  | .pullNmi => pullNmi s
  | .grabFrameDone => grabFrameDone s

/-- Several operations of the host, in order. -/
def hostOps (ops : List HostOp) (s : State) : State := ops.foldl (fun t o => hostOp o t) s

/-- The host's turn before a tick: the operations its script has for it (log 6). -/
def hostTurn (s : State) : State :=
  match s.host.script with
  | [] => s
  | ops :: rest => hostOps ops { s with host := { s.host with script := rest } }

end Sys2Proof.Machine
end

