-- ==== Sys2Proof/Machine/Tick.lean ====
section
/-! DEFINITION. The CPU cycle, the DMA cycle and the system tick (10_state.md R37; 50_bus_devices.md R300, R322). -/

namespace Sys2Proof.Machine

/-- `ExecuteInstruction()` (30_encoding.md R120); the meaning sets `idle` to the cycles still owed. -/
def executeInstruction (s : State) : Result :=
  let r := fetchInstr s
  exec r.1 r.2

/-- NMI entry at the poll (60_exceptions.md R523): the latch cleared, 7 cycles. -/
def takeNmi (s : State) : State := retire 7 (interruptEntry nmiVector { s with nmiPending := false })

/-- IRQ entry at the poll (60_exceptions.md R524): the latch cleared, 7 cycles. -/
def takeIrq (s : State) : State := retire 7 (interruptEntry irqVector { s with irqPending := false })

/-- `CpuCycle()` (10_state.md R37). -/
def cpuCycle (s : State) : Result :=
  if 0 < s.idle then .next { s with idle := s.idle - 1 }
  else if s.nmiPending then .next (takeNmi s)
  else if s.irqPending && !hasFlag flagI s.p then .next (takeIrq s)
  else executeInstruction s

/-- The write half of a byte move (50_bus_devices.md R322 to R324). -/
def dmaWrite (s : State) : State :=
  { s with
    ppu := { s.ppu with oam := Memory.write s.ppu.oam s.dma.index.toNat s.dma.latch }
    dma := if s.dma.index = 255#8 then { s.dma with active := false, phase := .read }
      else { s.dma with index := s.dma.index + 1#8, phase := .read } }

/-- The read half of a byte move (50_bus_devices.md R322). -/
def dmaRead (s : State) : State :=
  let r := memRead (join s.dma.page s.dma.index) s
  { r.2 with dma := { r.2.dma with latch := r.1, phase := .write } }

/-- `DmaCycle()` (50_bus_devices.md R322). -/
def dmaCycle (s : State) : State :=
  if 0 < s.dma.dummy then { s with dma := { s.dma with dummy := s.dma.dummy - 1 } }
  else
    match s.dma.phase with
    | .read => dmaRead s
    | .write => dmaWrite s

/-- The CPU slot of a tick: the DMA engine or the CPU, never both (50_bus_devices.md R300, 20_memory.md R91). -/
def cpuSlot (s : State) : Result := if s.dma.active then .next (dmaCycle s) else cpuCycle s

/-- The three dots, then the cycle counter (50_bus_devices.md R300). -/
def finishTick (s : State) : State :=
  let s := ppuDot (ppuDot (ppuDot s))
  { s with cycles := s.cycles + 1#64 }

/-- `Tick()` (50_bus_devices.md R300). -/
def tick (s : State) : Result :=
  match cpuSlot (apuStep s) with
  | .next t => .next (finishTick t)
  | .fault f => .fault f
  | .refused r => .refused r

end Sys2Proof.Machine
end

