-- ==== Sys2Proof/Machine/Step.lean ====
section
/-! DEFINITION. One step: the host's turn, then one tick (50_bus_devices.md R300, R345; log 7). And the instruction placed where the
next step fetches it (log 10). -/

namespace Sys2Proof.Machine

/-- One step of the machine. -/
def step (s : State) : Host.Outcome State Fault Refusal := tick (hostTurn s)

/-- `s` with the instruction of a table word stored where the next step fetches, so that `step` fetches and runs exactly it. -/
def State.withFetchWord (s : State) (nbits w : Nat) : State :=
  let v := w % 2 ^ nbits
  placeInstr (BitVec.ofNat 8 v) (BitVec.ofNat 8 (v / 256)) (BitVec.ofNat 8 (v / 65536)) s

end Sys2Proof.Machine
end

