-- ==== Sys2Proof/Safety.lean ====
section
/-! DEFINITION. What a well-formed machine state is: the invariant that every step keeps, clause by clause from the spec. -/

namespace Sys2Proof.Machine

/-- Bits 5 and 4 of the stored status: constant 1 and constant 0 (10_state.md R24). -/
def statusOk (p : Byte) : Bool := p.getLsbD 5 && !p.getLsbD 4

/-- The counters of the CPU, DMA engine and controller in their ranges (10_state.md R37, R41, R42). -/
abbrev countersOk (s : State) : Prop := s.idle ≤ 8 ∧ s.dma.dummy ≤ 2 ∧ s.pad.cursor ≤ 8

/-- The PPU's position in its frame (10_state.md R44). -/
abbrev positionOk (p : Ppu) : Prop := p.scanline ≤ 261 ∧ p.dot ≤ 340

/-- Up to eight sprite slots in each buffer (10_state.md R48). -/
abbrev spritesOk (p : Ppu) : Prop := p.sprCur.length ≤ 8 ∧ p.sprNext.length ≤ 8

/-- Every store of the machine in canonical form and inside its size (10_state.md R40 to R52, log 3). -/
abbrev memoriesOk (s : State) : Prop :=
  Memory.wf ramSize s.ram ∧ Memory.wf wramSize s.wram ∧ Memory.wf chrBankSize s.chrRam ∧ Memory.wf apuSize s.apu ∧
  Memory.wf oamSize s.ppu.oam ∧ Memory.wf paletteSize s.ppu.palette ∧ Memory.wf ntSize s.ppu.nt ∧ Memory.wf ntSize s.ppu.ntExt ∧
  Memory.wf fbSize s.ppu.fb

/-- A mapper's counter and bank registers in range (10_state.md R55, R56). -/
def mapperRegsOk : Mapper → Bool
  | .nrom => true
  | .sxrom m => decide (m.count ≤ 4)
  | .txrom m => decide (Memory.wf 8 m.r)

/-- The mapper in force is the kind the cartridge names, for the life of the cartridge (52_mappers.md R450). -/
abbrev mapperOk (s : State) : Prop := mapperKind s.mapper = s.cfg.cart.mapper ∧ mapperRegsOk s.mapper = true

/-- A four-screen cartridge stays four-screen, and no other becomes it (10_state.md R52, 52_mappers.md R472, R503). -/
abbrev mirroringOk (s : State) : Prop := s.mirroring = .fourScreen ↔ s.cfg.cart.mirroring = .fourScreen

/-- The machine's invariant. -/
structure Inv (s : State) : Prop where
  status    : statusOk s.p = true
  counters  : countersOk s
  position  : positionOk s.ppu
  sprites   : spritesOk s.ppu
  memories  : memoriesOk s
  mapper    : mapperOk s
  mirroring : mirroringOk s
  cart      : s.cfg.cart.wf
  colours   : Memory.wf colourCount s.cfg.colours

end Sys2Proof.Machine
end

