-- ==== Sys2Proof/Certificates/Slice0/Obligations.lean ====
section
/-! DEFINITION. The statements for the provers, and the vocabulary they are written in. A rule of the spec that the spec itself marks
`[decision]`, `[derived]` or `[from general knowledge, not in source]` is the spec's own choice or inference: a statement that rests on
one has basis 'derived', and its docstring names the mark. -/

namespace Sys2Proof.Vocab

open Sys2Proof.Machine

/-! The status byte -/

/-- `P` with Z and N from a result byte (10_state.md R31). -/
def nz (v p : Byte) : Byte := (p &&& 0x7D#8) ||| (v &&& 0x80#8) ||| (if v = 0#8 then 0x02#8 else 0x00#8)

/-- `P` with C written. -/
def putC (c : Bool) (p : Byte) : Byte := (p &&& 0xFE#8) ||| (if c then 0x01#8 else 0x00#8)

/-- `P` with V written. -/
def putV (v : Bool) (p : Byte) : Byte := (p &&& 0xBF#8) ||| (if v then 0x40#8 else 0x00#8)

/-- The carry flag as a number. -/
def carry (p : Byte) : Nat := p.toNat % 2

/-- Whether a signed result does not fit in a byte. -/
def outOfRange (n : Int) : Bool := decide (n < -128 ∨ 127 < n)

/-- A and P after adding a byte with a carry-in, in unsigned and signed arithmetic. -/
def addA (a m : Byte) (c : Nat) : Byte := BitVec.ofNat 8 (a.toNat + m.toNat + c)
def addP (a m : Byte) (c : Nat) (p : Byte) : Byte :=
  nz (addA a m c) (putV (outOfRange (a.toInt + m.toInt + c)) (putC (decide (256 ≤ a.toNat + m.toNat + c)) p))

/-- A and P after subtracting a byte and a borrow, in unsigned and signed arithmetic. -/
def subA (a m : Byte) (borrow : Nat) : Byte := BitVec.ofInt 8 (a.toNat - m.toNat - borrow)
def subP (a m : Byte) (borrow : Nat) (p : Byte) : Byte :=
  nz (subA a m borrow) (putV (outOfRange (a.toInt - m.toInt - borrow)) (putC (decide (m.toNat + borrow ≤ a.toNat)) p))

/-- P after comparing a register with a byte. -/
def compareP (r m p : Byte) : Byte := nz (r - m) (putC (decide (m.toNat ≤ r.toNat)) p)

/-! Instruction forms -/

/-- A read-class form: the instruction, its bytes, its cycles, whether a page crossing adds one, its operand. -/
structure ReadForm where
  instr  : Instr
  bytes  : List Byte
  cycles : Nat
  marked : Bool
  source : Source

/-- A write or read-modify-write form: the instruction, its bytes, its cycles, its data address. -/
structure MemForm where
  instr  : Instr
  bytes  : List Byte
  cycles : Nat
  mode   : AddrMode

/-- Whether an operand's indexed address lies on another page than its base (30_encoding.md R127, R128, R132, R133). -/
def crosses (o : Source) (s : State) : Bool :=
  match o with
  | .imm _ => false
  | .mem m => pageCrossed m s

/-- The cycles of a read-class form in a state (30_encoding.md R136). -/
def ReadForm.cost (f : ReadForm) (s : State) : Nat := f.cycles + if f.marked && crosses f.source s then 1 else 0

/-- Each form has these bytes, and it runs: the operand is read once, `effect` makes the rest. -/
def reads (fs : List ReadForm) (s : State) (effect : Byte → State → State) : Prop :=
  ∀ f ∈ fs, encode f.instr = f.bytes ∧
    exec f.instr s = .next { effect (readSource f.source s).1 (readSource f.source s).2 with idle := f.cost s - 1 }

/-- Each form has these bytes, and it runs: the byte is stored at the form's data address. -/
def stores (fs : List MemForm) (s : State) (v : Byte) : Prop :=
  ∀ f ∈ fs, encode f.instr = f.bytes ∧ exec f.instr s = .next { memWrite (effAddr f.mode s) v s with idle := f.cycles - 1 }

/-- The state after one read at an address and one write there of what `result` makes of the byte read. -/
def readThenWrite (a : Addr) (result : Byte → Byte) (s : State) : State := memWrite a (result (memRead a s).1) (memRead a s).2

/-- Each form has these bytes, and it runs: one read and one write at the form's data address, then `effect` of the old byte. -/
def updates (fs : List MemForm) (s : State) (result : Byte → Byte) (effect : Byte → State → State) : Prop :=
  ∀ f ∈ fs, encode f.instr = f.bytes ∧
    exec f.instr s = .next { effect (peek (effAddr f.mode s) s) (readThenWrite (effAddr f.mode s) result s) with idle := f.cycles - 1 }

/-- One form has these bytes, takes `n` cycles and leaves `t`. -/
def runs (i : Instr) (bytes : List Byte) (n : Nat) (s t : State) : Prop := encode i = bytes ∧ exec i s = .next { t with idle := n - 1 }

/-- The forms of LDA (R161). -/
def ldaForms (nn : Byte) (w : Addr) : List ReadForm :=
  [ ⟨.ldaImm nn, [0xA9#8, nn], 2, false, .imm nn⟩,
    ⟨.ldaZp nn, [0xA5#8, nn], 3, false, .mem (.zp nn)⟩,
    ⟨.ldaZpx nn, [0xB5#8, nn], 4, false, .mem (.zpx nn)⟩,
    ⟨.ldaIzx nn, [0xA1#8, nn], 6, false, .mem (.izx nn)⟩,
    ⟨.ldaIzy nn, [0xB1#8, nn], 5, true, .mem (.izy nn)⟩,
    ⟨.ldaAbs w, [0xAD#8, operandLo w, operandHi w], 4, false, .mem (.abs w)⟩,
    ⟨.ldaAbx w, [0xBD#8, operandLo w, operandHi w], 4, true, .mem (.abx w)⟩,
    ⟨.ldaAby w, [0xB9#8, operandLo w, operandHi w], 4, true, .mem (.aby w)⟩ ]

/-- The forms of LDX (R162). -/
def ldxForms (nn : Byte) (w : Addr) : List ReadForm :=
  [ ⟨.ldxImm nn, [0xA2#8, nn], 2, false, .imm nn⟩,
    ⟨.ldxZp nn, [0xA6#8, nn], 3, false, .mem (.zp nn)⟩,
    ⟨.ldxZpy nn, [0xB6#8, nn], 4, false, .mem (.zpy nn)⟩,
    ⟨.ldxAbs w, [0xAE#8, operandLo w, operandHi w], 4, false, .mem (.abs w)⟩,
    ⟨.ldxAby w, [0xBE#8, operandLo w, operandHi w], 4, true, .mem (.aby w)⟩ ]

/-- The forms of LDY (R163). -/
def ldyForms (nn : Byte) (w : Addr) : List ReadForm :=
  [ ⟨.ldyImm nn, [0xA0#8, nn], 2, false, .imm nn⟩,
    ⟨.ldyZp nn, [0xA4#8, nn], 3, false, .mem (.zp nn)⟩,
    ⟨.ldyZpx nn, [0xB4#8, nn], 4, false, .mem (.zpx nn)⟩,
    ⟨.ldyAbs w, [0xAC#8, operandLo w, operandHi w], 4, false, .mem (.abs w)⟩,
    ⟨.ldyAbx w, [0xBC#8, operandLo w, operandHi w], 4, true, .mem (.abx w)⟩ ]

/-- The forms of ADC (R180). -/
def adcForms (nn : Byte) (w : Addr) : List ReadForm :=
  [ ⟨.adcImm nn, [0x69#8, nn], 2, false, .imm nn⟩,
    ⟨.adcZp nn, [0x65#8, nn], 3, false, .mem (.zp nn)⟩,
    ⟨.adcZpx nn, [0x75#8, nn], 4, false, .mem (.zpx nn)⟩,
    ⟨.adcIzx nn, [0x61#8, nn], 6, false, .mem (.izx nn)⟩,
    ⟨.adcIzy nn, [0x71#8, nn], 5, true, .mem (.izy nn)⟩,
    ⟨.adcAbs w, [0x6D#8, operandLo w, operandHi w], 4, false, .mem (.abs w)⟩,
    ⟨.adcAbx w, [0x7D#8, operandLo w, operandHi w], 4, true, .mem (.abx w)⟩,
    ⟨.adcAby w, [0x79#8, operandLo w, operandHi w], 4, true, .mem (.aby w)⟩ ]

/-- The forms of SBC (R181). -/
def sbcForms (nn : Byte) (w : Addr) : List ReadForm :=
  [ ⟨.sbcImm nn, [0xE9#8, nn], 2, false, .imm nn⟩,
    ⟨.sbcZp nn, [0xE5#8, nn], 3, false, .mem (.zp nn)⟩,
    ⟨.sbcZpx nn, [0xF5#8, nn], 4, false, .mem (.zpx nn)⟩,
    ⟨.sbcIzx nn, [0xE1#8, nn], 6, false, .mem (.izx nn)⟩,
    ⟨.sbcIzy nn, [0xF1#8, nn], 5, true, .mem (.izy nn)⟩,
    ⟨.sbcAbs w, [0xED#8, operandLo w, operandHi w], 4, false, .mem (.abs w)⟩,
    ⟨.sbcAbx w, [0xFD#8, operandLo w, operandHi w], 4, true, .mem (.abx w)⟩,
    ⟨.sbcAby w, [0xF9#8, operandLo w, operandHi w], 4, true, .mem (.aby w)⟩ ]

/-- The forms of AND (R182). -/
def andForms (nn : Byte) (w : Addr) : List ReadForm :=
  [ ⟨.andImm nn, [0x29#8, nn], 2, false, .imm nn⟩,
    ⟨.andZp nn, [0x25#8, nn], 3, false, .mem (.zp nn)⟩,
    ⟨.andZpx nn, [0x35#8, nn], 4, false, .mem (.zpx nn)⟩,
    ⟨.andIzx nn, [0x21#8, nn], 6, false, .mem (.izx nn)⟩,
    ⟨.andIzy nn, [0x31#8, nn], 5, true, .mem (.izy nn)⟩,
    ⟨.andAbs w, [0x2D#8, operandLo w, operandHi w], 4, false, .mem (.abs w)⟩,
    ⟨.andAbx w, [0x3D#8, operandLo w, operandHi w], 4, true, .mem (.abx w)⟩,
    ⟨.andAby w, [0x39#8, operandLo w, operandHi w], 4, true, .mem (.aby w)⟩ ]

/-- The forms of ORA (R183). -/
def oraForms (nn : Byte) (w : Addr) : List ReadForm :=
  [ ⟨.oraImm nn, [0x09#8, nn], 2, false, .imm nn⟩,
    ⟨.oraZp nn, [0x05#8, nn], 3, false, .mem (.zp nn)⟩,
    ⟨.oraZpx nn, [0x15#8, nn], 4, false, .mem (.zpx nn)⟩,
    ⟨.oraIzx nn, [0x01#8, nn], 6, false, .mem (.izx nn)⟩,
    ⟨.oraIzy nn, [0x11#8, nn], 5, true, .mem (.izy nn)⟩,
    ⟨.oraAbs w, [0x0D#8, operandLo w, operandHi w], 4, false, .mem (.abs w)⟩,
    ⟨.oraAbx w, [0x1D#8, operandLo w, operandHi w], 4, true, .mem (.abx w)⟩,
    ⟨.oraAby w, [0x19#8, operandLo w, operandHi w], 4, true, .mem (.aby w)⟩ ]

/-- The forms of EOR (R184). -/
def eorForms (nn : Byte) (w : Addr) : List ReadForm :=
  [ ⟨.eorImm nn, [0x49#8, nn], 2, false, .imm nn⟩,
    ⟨.eorZp nn, [0x45#8, nn], 3, false, .mem (.zp nn)⟩,
    ⟨.eorZpx nn, [0x55#8, nn], 4, false, .mem (.zpx nn)⟩,
    ⟨.eorIzx nn, [0x41#8, nn], 6, false, .mem (.izx nn)⟩,
    ⟨.eorIzy nn, [0x51#8, nn], 5, true, .mem (.izy nn)⟩,
    ⟨.eorAbs w, [0x4D#8, operandLo w, operandHi w], 4, false, .mem (.abs w)⟩,
    ⟨.eorAbx w, [0x5D#8, operandLo w, operandHi w], 4, true, .mem (.abx w)⟩,
    ⟨.eorAby w, [0x59#8, operandLo w, operandHi w], 4, true, .mem (.aby w)⟩ ]

/-- The forms of CMP (R185). -/
def cmpForms (nn : Byte) (w : Addr) : List ReadForm :=
  [ ⟨.cmpImm nn, [0xC9#8, nn], 2, false, .imm nn⟩,
    ⟨.cmpZp nn, [0xC5#8, nn], 3, false, .mem (.zp nn)⟩,
    ⟨.cmpZpx nn, [0xD5#8, nn], 4, false, .mem (.zpx nn)⟩,
    ⟨.cmpIzx nn, [0xC1#8, nn], 6, false, .mem (.izx nn)⟩,
    ⟨.cmpIzy nn, [0xD1#8, nn], 5, true, .mem (.izy nn)⟩,
    ⟨.cmpAbs w, [0xCD#8, operandLo w, operandHi w], 4, false, .mem (.abs w)⟩,
    ⟨.cmpAbx w, [0xDD#8, operandLo w, operandHi w], 4, true, .mem (.abx w)⟩,
    ⟨.cmpAby w, [0xD9#8, operandLo w, operandHi w], 4, true, .mem (.aby w)⟩ ]

/-- The forms of CPX (R186). -/
def cpxForms (nn : Byte) (w : Addr) : List ReadForm :=
  [ ⟨.cpxImm nn, [0xE0#8, nn], 2, false, .imm nn⟩,
    ⟨.cpxZp nn, [0xE4#8, nn], 3, false, .mem (.zp nn)⟩,
    ⟨.cpxAbs w, [0xEC#8, operandLo w, operandHi w], 4, false, .mem (.abs w)⟩ ]

/-- The forms of CPY (R187). -/
def cpyForms (nn : Byte) (w : Addr) : List ReadForm :=
  [ ⟨.cpyImm nn, [0xC0#8, nn], 2, false, .imm nn⟩,
    ⟨.cpyZp nn, [0xC4#8, nn], 3, false, .mem (.zp nn)⟩,
    ⟨.cpyAbs w, [0xCC#8, operandLo w, operandHi w], 4, false, .mem (.abs w)⟩ ]

/-- The forms of BIT (R188). -/
def bitForms (nn : Byte) (w : Addr) : List ReadForm :=
  [ ⟨.bitZp nn, [0x24#8, nn], 3, false, .mem (.zp nn)⟩,
    ⟨.bitAbs w, [0x2C#8, operandLo w, operandHi w], 4, false, .mem (.abs w)⟩ ]

/-- The forms of LAX (R251). -/
def laxForms (nn : Byte) (w : Addr) : List ReadForm :=
  [ ⟨.laxZp nn, [0xA7#8, nn], 3, false, .mem (.zp nn)⟩,
    ⟨.laxZpy nn, [0xB7#8, nn], 4, false, .mem (.zpy nn)⟩,
    ⟨.laxIzx nn, [0xA3#8, nn], 6, false, .mem (.izx nn)⟩,
    ⟨.laxIzy nn, [0xB3#8, nn], 5, true, .mem (.izy nn)⟩,
    ⟨.laxAbs w, [0xAF#8, operandLo w, operandHi w], 4, false, .mem (.abs w)⟩,
    ⟨.laxAby w, [0xBF#8, operandLo w, operandHi w], 4, true, .mem (.aby w)⟩ ]

/-- The memory forms of STA (R164). -/
def staForms (nn : Byte) (w : Addr) : List MemForm :=
  [ ⟨.staZp nn, [0x85#8, nn], 3, .zp nn⟩,
    ⟨.staZpx nn, [0x95#8, nn], 4, .zpx nn⟩,
    ⟨.staIzx nn, [0x81#8, nn], 6, .izx nn⟩,
    ⟨.staIzy nn, [0x91#8, nn], 6, .izy nn⟩,
    ⟨.staAbs w, [0x8D#8, operandLo w, operandHi w], 4, .abs w⟩,
    ⟨.staAbx w, [0x9D#8, operandLo w, operandHi w], 5, .abx w⟩,
    ⟨.staAby w, [0x99#8, operandLo w, operandHi w], 5, .aby w⟩ ]

/-- The memory forms of STX (R165). -/
def stxForms (nn : Byte) (w : Addr) : List MemForm :=
  [ ⟨.stxZp nn, [0x86#8, nn], 3, .zp nn⟩,
    ⟨.stxZpy nn, [0x96#8, nn], 4, .zpy nn⟩,
    ⟨.stxAbs w, [0x8E#8, operandLo w, operandHi w], 4, .abs w⟩ ]

/-- The memory forms of STY (R166). -/
def styForms (nn : Byte) (w : Addr) : List MemForm :=
  [ ⟨.styZp nn, [0x84#8, nn], 3, .zp nn⟩,
    ⟨.styZpx nn, [0x94#8, nn], 4, .zpx nn⟩,
    ⟨.styAbs w, [0x8C#8, operandLo w, operandHi w], 4, .abs w⟩ ]

/-- The memory forms of SAX (R252). -/
def saxForms (nn : Byte) (w : Addr) : List MemForm :=
  [ ⟨.saxZp nn, [0x87#8, nn], 3, .zp nn⟩,
    ⟨.saxZpy nn, [0x97#8, nn], 4, .zpy nn⟩,
    ⟨.saxIzx nn, [0x83#8, nn], 6, .izx nn⟩,
    ⟨.saxAbs w, [0x8F#8, operandLo w, operandHi w], 4, .abs w⟩ ]

/-- The memory forms of INC (R189). -/
def incForms (nn : Byte) (w : Addr) : List MemForm :=
  [ ⟨.incZp nn, [0xE6#8, nn], 5, .zp nn⟩,
    ⟨.incZpx nn, [0xF6#8, nn], 6, .zpx nn⟩,
    ⟨.incAbs w, [0xEE#8, operandLo w, operandHi w], 6, .abs w⟩,
    ⟨.incAbx w, [0xFE#8, operandLo w, operandHi w], 7, .abx w⟩ ]

/-- The memory forms of DEC (R190). -/
def decForms (nn : Byte) (w : Addr) : List MemForm :=
  [ ⟨.decZp nn, [0xC6#8, nn], 5, .zp nn⟩,
    ⟨.decZpx nn, [0xD6#8, nn], 6, .zpx nn⟩,
    ⟨.decAbs w, [0xCE#8, operandLo w, operandHi w], 6, .abs w⟩,
    ⟨.decAbx w, [0xDE#8, operandLo w, operandHi w], 7, .abx w⟩ ]

/-- The memory forms of ASL (R200). -/
def aslForms (nn : Byte) (w : Addr) : List MemForm :=
  [ ⟨.aslZp nn, [0x06#8, nn], 5, .zp nn⟩,
    ⟨.aslZpx nn, [0x16#8, nn], 6, .zpx nn⟩,
    ⟨.aslAbs w, [0x0E#8, operandLo w, operandHi w], 6, .abs w⟩,
    ⟨.aslAbx w, [0x1E#8, operandLo w, operandHi w], 7, .abx w⟩ ]

/-- The memory forms of LSR (R201). -/
def lsrForms (nn : Byte) (w : Addr) : List MemForm :=
  [ ⟨.lsrZp nn, [0x46#8, nn], 5, .zp nn⟩,
    ⟨.lsrZpx nn, [0x56#8, nn], 6, .zpx nn⟩,
    ⟨.lsrAbs w, [0x4E#8, operandLo w, operandHi w], 6, .abs w⟩,
    ⟨.lsrAbx w, [0x5E#8, operandLo w, operandHi w], 7, .abx w⟩ ]

/-- The memory forms of ROL (R202). -/
def rolForms (nn : Byte) (w : Addr) : List MemForm :=
  [ ⟨.rolZp nn, [0x26#8, nn], 5, .zp nn⟩,
    ⟨.rolZpx nn, [0x36#8, nn], 6, .zpx nn⟩,
    ⟨.rolAbs w, [0x2E#8, operandLo w, operandHi w], 6, .abs w⟩,
    ⟨.rolAbx w, [0x3E#8, operandLo w, operandHi w], 7, .abx w⟩ ]

/-- The memory forms of ROR (R203). -/
def rorForms (nn : Byte) (w : Addr) : List MemForm :=
  [ ⟨.rorZp nn, [0x66#8, nn], 5, .zp nn⟩,
    ⟨.rorZpx nn, [0x76#8, nn], 6, .zpx nn⟩,
    ⟨.rorAbs w, [0x6E#8, operandLo w, operandHi w], 6, .abs w⟩,
    ⟨.rorAbx w, [0x7E#8, operandLo w, operandHi w], 7, .abx w⟩ ]

/-- The memory forms of DCP (R253). -/
def dcpForms (nn : Byte) (w : Addr) : List MemForm :=
  [ ⟨.dcpZp nn, [0xC7#8, nn], 5, .zp nn⟩,
    ⟨.dcpZpx nn, [0xD7#8, nn], 6, .zpx nn⟩,
    ⟨.dcpIzx nn, [0xC3#8, nn], 8, .izx nn⟩,
    ⟨.dcpIzy nn, [0xD3#8, nn], 8, .izy nn⟩,
    ⟨.dcpAbs w, [0xCF#8, operandLo w, operandHi w], 6, .abs w⟩,
    ⟨.dcpAbx w, [0xDF#8, operandLo w, operandHi w], 7, .abx w⟩,
    ⟨.dcpAby w, [0xDB#8, operandLo w, operandHi w], 7, .aby w⟩ ]

/-- The memory forms of ISB (R254). -/
def isbForms (nn : Byte) (w : Addr) : List MemForm :=
  [ ⟨.isbZp nn, [0xE7#8, nn], 5, .zp nn⟩,
    ⟨.isbZpx nn, [0xF7#8, nn], 6, .zpx nn⟩,
    ⟨.isbIzx nn, [0xE3#8, nn], 8, .izx nn⟩,
    ⟨.isbIzy nn, [0xF3#8, nn], 8, .izy nn⟩,
    ⟨.isbAbs w, [0xEF#8, operandLo w, operandHi w], 6, .abs w⟩,
    ⟨.isbAbx w, [0xFF#8, operandLo w, operandHi w], 7, .abx w⟩,
    ⟨.isbAby w, [0xFB#8, operandLo w, operandHi w], 7, .aby w⟩ ]

/-- The memory forms of SLO (R255). -/
def sloForms (nn : Byte) (w : Addr) : List MemForm :=
  [ ⟨.sloZp nn, [0x07#8, nn], 5, .zp nn⟩,
    ⟨.sloZpx nn, [0x17#8, nn], 6, .zpx nn⟩,
    ⟨.sloIzx nn, [0x03#8, nn], 8, .izx nn⟩,
    ⟨.sloIzy nn, [0x13#8, nn], 8, .izy nn⟩,
    ⟨.sloAbs w, [0x0F#8, operandLo w, operandHi w], 6, .abs w⟩,
    ⟨.sloAbx w, [0x1F#8, operandLo w, operandHi w], 7, .abx w⟩,
    ⟨.sloAby w, [0x1B#8, operandLo w, operandHi w], 7, .aby w⟩ ]

/-- The memory forms of RLA (R256). -/
def rlaForms (nn : Byte) (w : Addr) : List MemForm :=
  [ ⟨.rlaZp nn, [0x27#8, nn], 5, .zp nn⟩,
    ⟨.rlaZpx nn, [0x37#8, nn], 6, .zpx nn⟩,
    ⟨.rlaIzx nn, [0x23#8, nn], 8, .izx nn⟩,
    ⟨.rlaIzy nn, [0x33#8, nn], 8, .izy nn⟩,
    ⟨.rlaAbs w, [0x2F#8, operandLo w, operandHi w], 6, .abs w⟩,
    ⟨.rlaAbx w, [0x3F#8, operandLo w, operandHi w], 7, .abx w⟩,
    ⟨.rlaAby w, [0x3B#8, operandLo w, operandHi w], 7, .aby w⟩ ]

/-- The memory forms of SRE (R257). -/
def sreForms (nn : Byte) (w : Addr) : List MemForm :=
  [ ⟨.sreZp nn, [0x47#8, nn], 5, .zp nn⟩,
    ⟨.sreZpx nn, [0x57#8, nn], 6, .zpx nn⟩,
    ⟨.sreIzx nn, [0x43#8, nn], 8, .izx nn⟩,
    ⟨.sreIzy nn, [0x53#8, nn], 8, .izy nn⟩,
    ⟨.sreAbs w, [0x4F#8, operandLo w, operandHi w], 6, .abs w⟩,
    ⟨.sreAbx w, [0x5F#8, operandLo w, operandHi w], 7, .abx w⟩,
    ⟨.sreAby w, [0x5B#8, operandLo w, operandHi w], 7, .aby w⟩ ]

/-- The memory forms of RRA (R258). -/
def rraForms (nn : Byte) (w : Addr) : List MemForm :=
  [ ⟨.rraZp nn, [0x67#8, nn], 5, .zp nn⟩,
    ⟨.rraZpx nn, [0x77#8, nn], 6, .zpx nn⟩,
    ⟨.rraIzx nn, [0x63#8, nn], 8, .izx nn⟩,
    ⟨.rraIzy nn, [0x73#8, nn], 8, .izy nn⟩,
    ⟨.rraAbs w, [0x6F#8, operandLo w, operandHi w], 6, .abs w⟩,
    ⟨.rraAbx w, [0x7F#8, operandLo w, operandHi w], 7, .abx w⟩,
    ⟨.rraAby w, [0x7B#8, operandLo w, operandHi w], 7, .aby w⟩ ]

/-- The 53 holes with their opcode bytes (R151). -/
def holeForms : List (Instr × List Byte) :=
  List.flatten [
    [(.hole02, [0x02#8]), (.hole04, [0x04#8]), (.hole0B, [0x0B#8]), (.hole0C, [0x0C#8]), (.hole12, [0x12#8]), (.hole14, [0x14#8]), (.hole1A, [0x1A#8]), (.hole1C, [0x1C#8])],
    [(.hole22, [0x22#8]), (.hole2B, [0x2B#8]), (.hole32, [0x32#8]), (.hole34, [0x34#8]), (.hole3A, [0x3A#8]), (.hole3C, [0x3C#8]), (.hole42, [0x42#8]), (.hole44, [0x44#8])],
    [(.hole4B, [0x4B#8]), (.hole52, [0x52#8]), (.hole54, [0x54#8]), (.hole5A, [0x5A#8]), (.hole5C, [0x5C#8]), (.hole62, [0x62#8]), (.hole64, [0x64#8]), (.hole6B, [0x6B#8])],
    [(.hole72, [0x72#8]), (.hole74, [0x74#8]), (.hole7A, [0x7A#8]), (.hole7C, [0x7C#8]), (.hole80, [0x80#8]), (.hole82, [0x82#8]), (.hole89, [0x89#8]), (.hole8B, [0x8B#8])],
    [(.hole92, [0x92#8]), (.hole93, [0x93#8]), (.hole9B, [0x9B#8]), (.hole9C, [0x9C#8]), (.hole9E, [0x9E#8]), (.hole9F, [0x9F#8]), (.holeAB, [0xAB#8]), (.holeB2, [0xB2#8])],
    [(.holeBB, [0xBB#8]), (.holeC2, [0xC2#8]), (.holeCB, [0xCB#8]), (.holeD2, [0xD2#8]), (.holeD4, [0xD4#8]), (.holeDA, [0xDA#8]), (.holeDC, [0xDC#8]), (.holeE2, [0xE2#8])],
    [(.holeEB, [0xEB#8]), (.holeF2, [0xF2#8]), (.holeF4, [0xF4#8]), (.holeFA, [0xFA#8]), (.holeFC, [0xFC#8])] ]


/-! The stack -/

/-- The RAM cell of the stack slot `k` above or below the pointer. -/
def slotUp (s : State) (k : Byte) : Nat := 256 + (s.s + k).toNat
def slotDown (s : State) (k : Byte) : Nat := 256 + (s.s - k).toNat

/-- RAM after pushing one, two or three bytes, first to last. -/
def ram1 (s : State) (b0 : Byte) : Memory 8 := Memory.write s.ram (slotDown s 0) b0
def ram2 (s : State) (b0 b1 : Byte) : Memory 8 := Memory.write (ram1 s b0) (slotDown s 1) b1
def ram3 (s : State) (b0 b1 b2 : Byte) : Memory 8 := Memory.write (ram2 s b0 b1) (slotDown s 2) b2

/-- The byte `k` slots above the pointer. -/
def stacked (s : State) (k : Byte) : Byte := Memory.read s.ram (slotUp s k)

/-- The bytes of an address, and the address of two bytes. -/
def hiByte (w : Addr) : Byte := BitVec.ofNat 8 (w.toNat / 256)
def loByte (w : Addr) : Byte := BitVec.ofNat 8 (w.toNat % 256)
def wordOf (hh ll : Byte) : Addr := BitVec.ofNat 16 (hh.toNat * 256 + ll.toNat)

/-- A branch: 2 cycles not taken, 3 taken, 4 taken to another page than the next instruction's. -/
def branches (i : Instr) (bytes : List Byte) (taken : Bool) (d : Byte) (s : State) : Prop :=
  let target := BitVec.ofInt 16 (s.pc.toNat + d.toInt)
  encode i = bytes ∧
    exec i s = .next (if taken then { s with pc := target, idle := if target.toNat / 256 = s.pc.toNat / 256 then 2 else 3 }
      else { s with idle := 1 })

/-! What an instruction reads and stores -/

/-- The data address mode of an instruction with an operand in memory. -/
def dataMode (i : Instr) : Option AddrMode :=
  match i.mode, encode i with
  | .zp, [_, nn] => some (.zp nn)
  | .zpx, [_, nn] => some (.zpx nn)
  | .zpy, [_, nn] => some (.zpy nn)
  | .izx, [_, nn] => some (.izx nn)
  | .izy, [_, nn] => some (.izy nn)
  | .abs, [_, ll, hh] => if i.op = .jmp ∨ i.op = .jsr then none else some (.abs (operand16 ll hh))
  | .abx, [_, ll, hh] => some (.abx (operand16 ll hh))
  | .aby, [_, ll, hh] => some (.aby (operand16 ll hh))
  | _, _ => none

/-- The address an instruction computes its data access at. -/
def dataAddr (i : Instr) (s : State) : Option Addr := (dataMode i).map fun m => effAddr m s

/-- Whether an operation is a branch that a status byte takes (43_control_flow.md R214 to R221). -/
def branchOf (o : Op) (p : Byte) : Bool :=
  match o with
  | .bcc => !p.getLsbD 0
  | .bcs => p.getLsbD 0
  | .beq => p.getLsbD 1
  | .bne => !p.getLsbD 1
  | .bmi => p.getLsbD 7
  | .bpl => !p.getLsbD 7
  | .bvc => !p.getLsbD 6
  | .bvs => p.getLsbD 6
  | _ => false

/-- The operations that write A (accumulator shifts apart), X, Y, S, PC (10_state.md R20, R21, R22). -/
def writersA : List Op := [.lda, .pla, .txa, .tya, .adc, .sbc, .and, .ora, .eor, .lax, .slo, .rla, .sre, .rra, .isb]
def writersX : List Op := [.ldx, .tax, .tsx, .inx, .dex, .lax]
def writersY : List Op := [.ldy, .tay, .iny, .dey]
def writersS : List Op := [.txs, .pha, .php, .pla, .plp, .jsr, .rts, .brk, .rti]
def writersPc : List Op := [.jmp, .jsr, .rts, .brk, .rti, .bcc, .bcs, .beq, .bne, .bmi, .bpl, .bvc, .bvs]
def shifts : List Op := [.asl, .lsr, .rol, .ror]

/-- The operations that write Z and N through `SetZN` or a compare (10_state.md R26, R30). -/
def writersZN : List Op :=
  [.lda, .ldx, .ldy, .tax, .tay, .txa, .tya, .tsx, .pla, .adc, .sbc, .and, .ora, .eor, .cmp, .cpx, .cpy, .bit, .inc, .dec, .inx, .iny,
   .dex, .dey, .asl, .lsr, .rol, .ror, .lax, .dcp, .isb, .slo, .rla, .sre, .rra, .plp, .rti]

/-- The operations that write each flag (10_state.md R25 to R30). -/
def flagWriters : List (Byte × List Op) :=
  [ (flagC, [.adc, .sbc, .rra, .isb, .cmp, .cpx, .cpy, .dcp, .asl, .slo, .lsr, .sre, .rol, .rla, .ror, .clc, .sec, .plp, .rti]),
    (flagZ, writersZN), (flagN, writersZN),
    (flagI, [.sei, .cli, .brk, .plp, .rti]),
    (flagD, [.sed, .cld, .plp, .rti]),
    (flagV, [.adc, .sbc, .rra, .isb, .bit, .clv, .plp, .rti]) ]

/-- The operations that store to a data address (30_encoding.md R134), and those that push (20_memory.md R82). -/
def storing : List Op :=
  [.sta, .stx, .sty, .sax, .inc, .dec, .asl, .lsr, .rol, .ror, .dcp, .isb, .slo, .rla, .sre, .rra]
def pushing : List Op := [.pha, .php, .jsr, .brk]

/-- An address whose read has no side effect (20_memory.md R87). -/
def quiet (a : Addr) : Prop := a < 0x2000#16 ∨ (0x4000#16 ≤ a ∧ a ≠ 0x4016#16)

/-- The addresses an instruction's data reads are made at, those of page zero pointers and of the stack apart. -/
def dataReads (i : Instr) (s : State) : List Addr :=
  match i with
  | .jmpInd w => [w, (w &&& 0xFF00#16) ||| ((w + 1#16) &&& 0x00FF#16)]
  | _ => (dataAddr i s).toList

/-- The addresses that may read otherwise after an access at `e` that stores: RAM's mirrors of it, the PPU's registers, the controller
port, the WRAM byte, or the ROM windows of a mapper that switches banks. -/
def touched (e b : Addr) (s : State) : Prop :=
  (e < 0x2000#16 ∧ b < 0x2000#16 ∧ b.toNat % 2048 = e.toNat % 2048) ∨
  (0x2000#16 ≤ e ∧ e < 0x4000#16 ∧ 0x2000#16 ≤ b ∧ b < 0x4000#16) ∨
  (e = 0x4016#16 ∧ b = 0x4016#16) ∨
  (0x6000#16 ≤ e ∧ e < 0x8000#16 ∧ b = e) ∨
  (0x8000#16 ≤ e ∧ 0x8000#16 ≤ b ∧ s.mapper ≠ .nrom)

/-! Fetching -/

/-- `n` bytes fetched at `PC`, one after the other (30_encoding.md R121). -/
def fetchBytes : Nat → State → List Byte × State
  | 0, s => ([], s)
  | n + 1, s =>
    let b := memRead s.pc s
    let r := fetchBytes n { b.2 with pc := s.pc + 1#16 }
    (b.1 :: r.1, r.2)

/-! The PPU -/

/-- The position in the frame, 0 to 89341 (51_ppu.md R381). -/
def framePosition (p : Ppu) : Nat := p.scanline * 341 + p.dot

/-- The scroll fields of `v` and `t` (10_state.md R46). -/
def coarseX (v : BitVec 15) : Nat := v.toNat % 32
def coarseY (v : BitVec 15) : Nat := v.toNat / 32 % 32
def tableX (v : BitVec 15) : Nat := v.toNat / 1024 % 2
def tableY (v : BitVec 15) : Nat := v.toNat / 2048 % 2
def fineY (v : BitVec 15) : Nat := v.toNat / 4096

/-- The physical page of a logical nametable (20_memory.md R102). -/
def pages : Mirroring → List Nat
  | .horizontal => [0, 0, 1, 1]
  | .vertical => [0, 1, 0, 1]
  | .singleLow => [0, 0, 0, 0]
  | .singleHigh => [1, 1, 1, 1]
  | .fourScreen => [0, 1, 2, 3]

/-- The nametable cell of a PPU address: physical page, offset. -/
def ntCell (m : Mirroring) (a : Nat) : Nat × Nat := ((pages m).getD (a / 1024 % 4) 0, a % 1024)

/-- The palette cell of a PPU address (20_memory.md R103). -/
def palCell (a : Nat) : Nat := if a % 32 ∈ [16, 20, 24, 28] then a % 32 - 16 else a % 32

/-- The OAM sprites in range of a line, in OAM order (51_ppu.md R412, its pseudocode at Y = $EF on line 239: log 17). -/
def spritesOnLine (line : Nat) (p : Ppu) : List Nat :=
  (List.range 64).filter fun n =>
    let y := (Memory.read p.oam (4 * n)).toNat
    decide (y ≤ line ∧ line < y + if p.ctrl.getLsbD 5 then 16 else 8)

/-- The slot of an OAM sprite (51_ppu.md R412). -/
def oamSlot (p : Ppu) (n : Nat) : SpriteSlot :=
  ⟨Memory.read p.oam (4 * n), Memory.read p.oam (4 * n + 1), Memory.read p.oam (4 * n + 2), Memory.read p.oam (4 * n + 3), 0, 0, n == 0⟩

/-- The 16 KiB or 8 KiB PRG banks that a mapper's windows show, lowest address first, before the modulo: NROM (52_mappers.md R463),
SxROM (R473), TxROM (R493); `n` 16 KiB banks. -/
def prgBanksShown (n : Nat) : Mapper → List Nat
  | .nrom => [0, 1]
  | .sxrom m =>
    let b := m.prg.toNat % 16
    [[b / 2 * 2, b / 2 * 2 + 1], [b / 2 * 2, b / 2 * 2 + 1], [0, b], [b, n - 1]].getD (m.control.toNat / 4 % 4) []
  | .txrom m =>
    let r := fun k => (Memory.read m.r k).toNat
    if m.select.toNat / 64 % 2 = 0 then [r 6, r 7, 2 * n - 2, 2 * n - 1] else [2 * n - 2, r 7, r 6, 2 * n - 1]

/-- The 8, 4 or 1 KiB CHR banks that a mapper's windows show, lowest address first, before the modulo: NROM (52_mappers.md R464), SxROM
(R474), TxROM (R494). -/
def chrBanksShown : Mapper → List Nat
  | .nrom => [0]
  | .sxrom m =>
    if m.control.toNat / 16 = 0 then [m.chr0.toNat / 2 * 2, m.chr0.toNat / 2 * 2 + 1] else [m.chr0.toNat, m.chr1.toNat]
  | .txrom m =>
    let r := fun k => (Memory.read m.r k).toNat
    let doubles := [r 0 / 2 * 2, r 0 / 2 * 2 + 1, r 1 / 2 * 2, r 1 / 2 * 2 + 1]
    let singles := [r 2, r 3, r 4, r 5]
    if m.select.toNat / 128 = 0 then doubles ++ singles else singles ++ doubles

/-- The sizes of a mapper's windows. -/
def prgWindow : Mapper → Nat
  | .nrom | .sxrom _ => 16384
  | .txrom _ => 8192
def chrWindow : Mapper → Nat
  | .nrom => 8192
  | .sxrom _ => 4096
  | .txrom _ => 1024

/-- Windows side by side from an address, each with its bank's place in data of `total` bytes: the bank number modulo the count of banks
of that size (52_mappers.md R456). -/
def windows (base size total : Nat) (banks : List Nat) : List (Nat × Nat × Nat) :=
  banks.zipIdx.map fun c => (base + c.2 * size, size, c.1 % (total / size) * size)

/-- The byte read at a pattern address, reversed where the sprite is flipped (51_ppu.md R414). -/
def mirrored (b : Byte) : Byte :=
  BitVec.ofNat 8 ((List.range 8).foldl (fun n k => 2 * n + (b.getLsbD k).toNat) 0)
def plane (e : SpriteSlot) (b : Byte) : Byte := if e.attr.getLsbD 6 then mirrored b else b

/-- A shift register after a dot: shifted by one where the dot shifts, then its low byte replaced where the dot reloads
(51_ppu.md R391, R392). -/
def shifted (d low : Nat) (r : BitVec 16) : Nat :=
  let r' := if (2 ≤ d ∧ d ≤ 257) ∨ (322 ≤ d ∧ d ≤ 337) then 2 * r.toNat % 65536 else r.toNat
  if d % 8 = 1 ∧ (9 ≤ d ∧ d ≤ 257 ∨ d = 329 ∨ d = 337) then r' / 256 * 256 + low else r'

/-- The dots of the fetch groups (51_ppu.md R390). -/
def fetches (d : Nat) : Prop := (1 ≤ d ∧ d ≤ 256) ∨ (321 ≤ d ∧ d ≤ 336)

/-- Two bits at a place, the second lowest. -/
def twoBits (hh ll k : Nat) : Nat := 2 * (hh / 2 ^ k % 2) + ll / 2 ^ k % 2

/-- `n` bytes of a page moved to OAM, one after the other, each read an ordinary bus read (50_bus_devices.md R322, R323). -/
def moves (v : Byte) : Nat → State → State
  | 0, s => s
  | n + 1, s =>
    let t := moves v n s
    let r := memRead (wordOf v (BitVec.ofNat 8 n)) t
    { r.2 with ppu := { r.2.ppu with oam := Memory.write r.2.ppu.oam n r.1 } }

/-- `n` steps. -/
def afterSteps : Nat → State → State
  | 0, s => s
  | n + 1, s =>
    match step s with
    | .next t => afterSteps n t
    | _ => s

/-- `n` reads of the controller port. -/
def afterReads : Nat → State → State
  | 0, s => s
  | n + 1, s => afterReads n (memRead 0x4016#16 s).2

/-- `n` cycles of the DMA engine. -/
def afterDma : Nat → State → State
  | 0, s => s
  | n + 1, s => afterDma n (dmaCycle s)

/-- The number that five bits make, the first lowest. -/
def serial (b0 b1 b2 b3 b4 : Bool) : BitVec 5 :=
  BitVec.ofNat 5 (b0.toNat + 2 * b1.toNat + 4 * b2.toNat + 8 * b3.toNat + 16 * b4.toNat)

end Sys2Proof.Vocab

open Sys2Proof Sys2Proof.Machine Sys2Proof.Vocab

/-! Encoding -/

/-- Decoding the encoding of an instruction gives it back, every operand at every value, whatever bytes follow. The opcode values of
30_encoding.md R140 are marked `[from general knowledge, not in source]` by the spec. -/
def Obligations.DecodeOfEncodeIsTheInstruction : Prop :=
  ∀ (i : Instr) (rest : List Byte), decode (encode i ++ rest) = .ok (i, rest)

/-- Decoding is total on three bytes, takes as many bytes as the addressing mode has, and the encoder gives those bytes back: each
word has one meaning (30_encoding.md R120, R122). The mode lengths are marked `[from general knowledge, not in source]`. -/
def Obligations.DecodeIsTotalAndEncodeGivesTheBytesBack : Prop :=
  (∀ (b0 b1 b2 : Byte) (rest : List Byte), ∃ i tail, decode (b0 :: b1 :: b2 :: rest) = .ok (i, tail)) ∧
  ∀ (bytes rest : List Byte) (i : Instr), decode bytes = .ok (i, rest) →
    encode i ++ rest = bytes ∧ (encode i).length = i.mode.length

/-- Words written out from 30_encoding.md R140, R155 decode to the instructions they stand for. -/
def Obligations.SpecWordsDecode : Prop :=
  decode [0xA9#8, 0x80#8] = .ok (.ldaImm 0x80#8, []) ∧
  decode [0x30#8, 0x02#8] = .ok (.bmi 0x02#8, []) ∧
  decode [0xAA#8] = .ok (.tax, []) ∧
  decode [0x0A#8] = .ok (.aslAcc, []) ∧
  decode [0xB6#8, 0x10#8] = .ok (.ldxZpy 0x10#8, []) ∧
  decode [0xB9#8, 0x34#8, 0x12#8] = .ok (.ldaAby 0x1234#16, []) ∧
  decode [0x6C#8, 0x34#8, 0x12#8] = .ok (.jmpInd 0x1234#16, []) ∧
  decode [0x20#8, 0x23#8, 0xC1#8] = .ok (.jsr 0xC123#16, []) ∧
  decode [0xB1#8, 0x10#8] = .ok (.ldaIzy 0x10#8, []) ∧
  decode [0xC7#8, 0x10#8] = .ok (.dcpZp 0x10#8, []) ∧
  decode [0x00#8] = .ok (.brk, []) ∧
  decode [0x02#8] = .ok (.hole02, []) ∧
  decode [0x08#8] = .ok (.php, []) ∧
  decode [0x7D#8, 0xFF#8, 0x12#8] = .ok (.adcAbx 0x12FF#16, []) ∧
  decode [0xB9#8, 0x34#8] = .error (.truncated 0xB9#8) ∧
  decode [] = .error .noOpcode

/-! The step -/

/-- A step runs the decoded instruction: where the host's turn leaves an instruction boundary with nothing to take, and the bytes at
`PC` lie where reads have no side effect and decode to `i`, the step is `exec i` with `PC` past the instruction, then the three dots
and the cycle counter (30_encoding.md R120, 10_state.md R37, 50_bus_devices.md R300: decisions D1, D2; log 7, log 8). -/
def Obligations.StepRunsTheDecodedInstruction : Prop :=
  ∀ (s s' : State) (i : Instr) (rest : List Byte),
    hostTurn s = s' → s'.dma.active = false → s'.idle = 0 → s'.nmiPending = false → (s'.irqPending = false ∨ hasFlag flagI s'.p = true) →
    quiet s'.pc → quiet (s'.pc + 1#16) → quiet (s'.pc + 2#16) →
    decode [peek s'.pc s', peek (s'.pc + 1#16) s', peek (s'.pc + 2#16) s'] = .ok (i, rest) →
    ∃ t, exec i { s' with pc := s'.pc + BitVec.ofNat 16 (encode i).length, cur := encode i } = .next t ∧ step s = .next (finishTick t)

/-- Fetching reads exactly the bytes of the instruction it decodes, in ascending address order, through the bus with the reads' side
effects, at any address (30_encoding.md R120, R121). -/
def Obligations.FetchReadsTheDecodedBytes : Prop :=
  ∀ s : State,
    let n := (opTable (peek s.pc s)).mode.length
    let r := fetchBytes n s
    decode r.1 = .ok ((fetchInstr s).1, []) ∧ (fetchInstr s).2 = { r.2 with cur := r.1 }

/-- "No step of the machine returns an error" (00_scope.md R16): every state steps to a next state. -/
def Obligations.EveryStepAnswersANextState : Prop :=
  (∀ s : State, ∃ t, step s = .next t) ∧ (∀ (i : Instr) (s : State), ∃ t, exec i s = .next t)

/-- The cycles an instruction consumes are the table's, plus one for a crossed page on a marked opcode, plus one or two for a taken
branch (30_encoding.md R135, R136, R137). The base counts are marked `[from general knowledge, not in source]`, R136 decision D11. -/
def Obligations.CyclesAreTheTablesPlusPenalties : Prop :=
  ∀ (i : Instr) (s t : State), exec i s = .next t →
    t.idle + 1 = i.row.base + (if i.row.penalty && (match dataMode i with
        | some m => pageCrossed m s
        | none => false) then 1 else 0) +
      (if branchOf i.op s.p then (if page t.pc = page s.pc then 1 else 2) else 0)

/-- No step changes the configuration: the cartridge with its ROM bytes, and the palette (10_state.md R63, 52_mappers.md R461). That
the configuration stands in the state is the model's (log 1). -/
def Obligations.NoStepChangesTheConfiguration : Prop :=
  ∀ s t : State, step s = .next t → t.cfg = s.cfg

/-- A step counts one cycle and moves the PPU three dots on in its frame of 89342, whatever the CPU slot does
(50_bus_devices.md R300, R302: decision D2). -/
def Obligations.StepCountsOneCycleAndThreeDots : Prop :=
  ∀ s t : State, positionOk (hostTurn s).ppu → step s = .next t →
    t.cycles = (hostTurn s).cycles + 1#64 ∧
    framePosition t.ppu = (framePosition (hostTurn s).ppu + 3) % 89342

/-! The invariant -/

/-- The state after reset meets the invariant. -/
def Obligations.ResetMeetsTheInvariant : Prop := Inv State.reset

/-- Powering up a well-formed launch meets the invariant. -/
def Obligations.PowerUpMeetsTheInvariant : Prop := ∀ l : Launch, l.wf → Inv (powerUp l)

/-- Every step keeps the invariant: bits 5 and 4 of P, the counters' ranges, the position, the sprite buffers, the canonical form and
size of every store, the mapper's kind and registers, the mirroring, the configuration. -/
def Obligations.EveryStepKeepsTheInvariant : Prop := ∀ s t : State, Inv s → step s = .next t → Inv t

/-! Addressing -/

/-- The effective address and the page-cross flag of every data mode, in numbers (30_encoding.md R127, R128, R132, R133, marked
`[from general knowledge, not in source]`). -/
def Obligations.EffectiveAddressesOfTheDataModes : Prop :=
  ∀ (s : State) (nn : Byte) (w : Addr),
    let at' := fun n : Nat => (peek (BitVec.ofNat 16 (n % 256)) s).toNat
    let pointer := fun n : Nat => at' n + 256 * at' (n + 1)
    ((effAddr (.zp nn) s).toNat = nn.toNat ∧ pageCrossed (.zp nn) s = false) ∧
    ((effAddr (.zpx nn) s).toNat = (nn.toNat + s.x.toNat) % 256 ∧ pageCrossed (.zpx nn) s = false) ∧
    ((effAddr (.zpy nn) s).toNat = (nn.toNat + s.y.toNat) % 256 ∧ pageCrossed (.zpy nn) s = false) ∧
    ((effAddr (.abs w) s) = w ∧ pageCrossed (.abs w) s = false) ∧
    ((effAddr (.abx w) s).toNat = (w.toNat + s.x.toNat) % 65536 ∧
      (pageCrossed (.abx w) s = true ↔ (w.toNat + s.x.toNat) % 65536 / 256 ≠ w.toNat / 256)) ∧
    ((effAddr (.aby w) s).toNat = (w.toNat + s.y.toNat) % 65536 ∧
      (pageCrossed (.aby w) s = true ↔ (w.toNat + s.y.toNat) % 65536 / 256 ≠ w.toNat / 256)) ∧
    ((effAddr (.izx nn) s).toNat = pointer (nn.toNat + s.x.toNat) ∧ pageCrossed (.izx nn) s = false) ∧
    ((effAddr (.izy nn) s).toNat = (pointer nn.toNat + s.y.toNat) % 65536 ∧
      (pageCrossed (.izy nn) s = true ↔ (pointer nn.toNat + s.y.toNat) % 65536 / 256 ≠ pointer nn.toNat / 256))

/-! What each instruction does: every form, its bytes, its cycles, its next state -/

/-- LDA, LDX, LDY, STA, STX, STY (40_load_store_transfer.md R161 to R166, marked `[from general knowledge, not in source]`). -/
def Obligations.LoadsAndStoresCompleteWithTheirResult : Prop :=
  ∀ (s : State) (nn : Byte) (w : Addr),
    reads (ldaForms nn w) s (fun m t => { t with a := m, p := nz m s.p }) ∧
    reads (ldxForms nn w) s (fun m t => { t with x := m, p := nz m s.p }) ∧
    reads (ldyForms nn w) s (fun m t => { t with y := m, p := nz m s.p }) ∧
    stores (staForms nn w) s s.a ∧ stores (stxForms nn w) s s.x ∧ stores (styForms nn w) s s.y

/-- TAX, TAY, TXA, TYA, TSX, TXS, INX, INY, DEX, DEY (40_load_store_transfer.md R167 to R172, 41_arith_logic.md R191 to R194, marked
`[from general knowledge, not in source]`). -/
def Obligations.RegisterInstructionsCompleteWithTheirResult : Prop :=
  ∀ s : State,
    runs .tax [0xAA#8] 2 s { s with x := s.a, p := nz s.a s.p } ∧
    runs .tay [0xA8#8] 2 s { s with y := s.a, p := nz s.a s.p } ∧
    runs .txa [0x8A#8] 2 s { s with a := s.x, p := nz s.x s.p } ∧
    runs .tya [0x98#8] 2 s { s with a := s.y, p := nz s.y s.p } ∧
    runs .tsx [0xBA#8] 2 s { s with x := s.s, p := nz s.s s.p } ∧
    runs .txs [0x9A#8] 2 s { s with s := s.x } ∧
    runs .inx [0xE8#8] 2 s { s with x := s.x + 1#8, p := nz (s.x + 1#8) s.p } ∧
    runs .iny [0xC8#8] 2 s { s with y := s.y + 1#8, p := nz (s.y + 1#8) s.p } ∧
    runs .dex [0xCA#8] 2 s { s with x := s.x - 1#8, p := nz (s.x - 1#8) s.p } ∧
    runs .dey [0x88#8] 2 s { s with y := s.y - 1#8, p := nz (s.y - 1#8) s.p }

/-- ADC: the 9-bit sum, the carry out of it, the signed overflow, Z and N; the D flag has no part in it (41_arith_logic.md R180). -/
def Obligations.AdcAddsWithCarryAndSignedOverflow : Prop :=
  ∀ (s : State) (nn : Byte) (w : Addr),
    reads (adcForms nn w) s (fun m t => { t with a := addA s.a m (carry s.p), p := addP s.a m (carry s.p) s.p })

/-- SBC: the difference less the borrow, C for no borrow, the signed overflow, Z and N (41_arith_logic.md R181; that it is an addition
of the complement is marked `[from general knowledge, not in source]`). -/
def Obligations.SbcSubtractsWithBorrowAndSignedOverflow : Prop :=
  ∀ (s : State) (nn : Byte) (w : Addr),
    reads (sbcForms nn w) s (fun m t => { t with a := subA s.a m (1 - carry s.p), p := subP s.a m (1 - carry s.p) s.p })

/-- AND, ORA, EOR, and CMP, CPX, CPY, BIT, which write flags alone (41_arith_logic.md R182 to R188, marked
`[from general knowledge, not in source]`). -/
def Obligations.LogicAndComparesCompleteWithTheirResult : Prop :=
  ∀ (s : State) (nn : Byte) (w : Addr),
    reads (andForms nn w) s (fun m t => { t with a := s.a &&& m, p := nz (s.a &&& m) s.p }) ∧
    reads (oraForms nn w) s (fun m t => { t with a := s.a ||| m, p := nz (s.a ||| m) s.p }) ∧
    reads (eorForms nn w) s (fun m t => { t with a := s.a ^^^ m, p := nz (s.a ^^^ m) s.p }) ∧
    reads (cmpForms nn w) s (fun m t => { t with p := compareP s.a m s.p }) ∧
    reads (cpxForms nn w) s (fun m t => { t with p := compareP s.x m s.p }) ∧
    reads (cpyForms nn w) s (fun m t => { t with p := compareP s.y m s.p }) ∧
    reads (bitForms nn w) s (fun m t =>
      { t with p := (s.p &&& 0x3D#8) ||| (m &&& 0xC0#8) ||| (if s.a &&& m = 0#8 then 0x02#8 else 0x00#8) })

/-- INC, DEC, and ASL, LSR, ROL, ROR on memory and on A: one read, one write, the result in numbers, the bit shifted out in C
(41_arith_logic.md R189, R190, 42_shift_rotate.md R200 to R203, marked `[from general knowledge, not in source]`). -/
def Obligations.IncDecAndShiftsCompleteWithTheirResult : Prop :=
  ∀ (s : State) (nn : Byte) (w : Addr),
    let asl := fun m : Byte => BitVec.ofNat 8 (2 * m.toNat)
    let lsr := fun m : Byte => BitVec.ofNat 8 (m.toNat / 2)
    let rol := fun m : Byte => BitVec.ofNat 8 (2 * m.toNat + carry s.p)
    let ror := fun m : Byte => BitVec.ofNat 8 (m.toNat / 2 + 128 * carry s.p)
    let out7 := fun (r m : Byte) => nz r (putC (decide (128 ≤ m.toNat)) s.p)
    let out0 := fun (r m : Byte) => nz r (putC (decide (m.toNat % 2 = 1)) s.p)
    updates (incForms nn w) s (fun m => m + 1#8) (fun m t => { t with p := nz (m + 1#8) s.p }) ∧
    updates (decForms nn w) s (fun m => m - 1#8) (fun m t => { t with p := nz (m - 1#8) s.p }) ∧
    updates (aslForms nn w) s asl (fun m t => { t with p := out7 (asl m) m }) ∧
    updates (lsrForms nn w) s lsr (fun m t => { t with p := out0 (lsr m) m }) ∧
    updates (rolForms nn w) s rol (fun m t => { t with p := out7 (rol m) m }) ∧
    updates (rorForms nn w) s ror (fun m t => { t with p := out0 (ror m) m }) ∧
    runs .aslAcc [0x0A#8] 2 s { s with a := asl s.a, p := out7 (asl s.a) s.a } ∧
    runs .lsrAcc [0x4A#8] 2 s { s with a := lsr s.a, p := out0 (lsr s.a) s.a } ∧
    runs .rolAcc [0x2A#8] 2 s { s with a := rol s.a, p := out7 (rol s.a) s.a } ∧
    runs .rorAcc [0x6A#8] 2 s { s with a := ror s.a, p := out0 (ror s.a) s.a }

/-- LAX and SAX (45_illegal.md R251, R252). -/
def Obligations.LaxAndSaxCompleteWithTheirResult : Prop :=
  ∀ (s : State) (nn : Byte) (w : Addr),
    reads (laxForms nn w) s (fun m t => { t with a := m, x := m, p := nz m s.p }) ∧
    stores (saxForms nn w) s (s.a &&& s.x)

/-- DCP, ISB, SLO, RLA, SRE, RRA: the memory operation, then the register operation on the new byte (45_illegal.md R253 to R258). -/
def Obligations.CombinedInstructionsCompleteWithTheirResult : Prop :=
  ∀ (s : State) (nn : Byte) (w : Addr),
    let c := carry s.p
    let slo := fun m : Byte => BitVec.ofNat 8 (2 * m.toNat)
    let rla := fun m : Byte => BitVec.ofNat 8 (2 * m.toNat + c)
    let sre := fun m : Byte => BitVec.ofNat 8 (m.toNat / 2)
    let rra := fun m : Byte => BitVec.ofNat 8 (m.toNat / 2 + 128 * c)
    updates (dcpForms nn w) s (fun m => m - 1#8) (fun m t => { t with p := compareP s.a (m - 1#8) s.p }) ∧
    updates (isbForms nn w) s (fun m => m + 1#8)
      (fun m t => { t with a := subA s.a (m + 1#8) (1 - c), p := subP s.a (m + 1#8) (1 - c) s.p }) ∧
    updates (sloForms nn w) s slo
      (fun m t => { t with a := s.a ||| slo m, p := nz (s.a ||| slo m) (putC (decide (128 ≤ m.toNat)) s.p) }) ∧
    updates (rlaForms nn w) s rla
      (fun m t => { t with a := s.a &&& rla m, p := nz (s.a &&& rla m) (putC (decide (128 ≤ m.toNat)) s.p) }) ∧
    updates (sreForms nn w) s sre
      (fun m t => { t with a := s.a ^^^ sre m, p := nz (s.a ^^^ sre m) (putC (decide (m.toNat % 2 = 1)) s.p) }) ∧
    updates (rraForms nn w) s rra
      (fun m t => { t with a := addA s.a (rra m) (m.toNat % 2), p := addP s.a (rra m) (m.toNat % 2) s.p })

/-- JSR pushes `PC - 1` high byte first and jumps; RTS pulls and increments (43_control_flow.md R211, R212). -/
def Obligations.JsrAndRtsCompleteOnTheStack : Prop :=
  ∀ (s : State) (w : Addr),
    runs (.jsr w) [0x20#8, operandLo w, operandHi w] 6 s
      { s with ram := ram2 s (hiByte (s.pc - 1#16)) (loByte (s.pc - 1#16)), s := s.s - 2#8, pc := w } ∧
    runs .rts [0x60#8] 6 s { s with s := s.s + 2#8, pc := wordOf (stacked s 2) (stacked s 1) + 1#16 }

/-- JMP, direct and through a pointer whose high byte comes from the pointer's own page, and the eight branches (43_control_flow.md
R210, R213 to R221, 30_encoding.md R129, R131, R137: decision D12; marked `[from general knowledge, not in source]` but for R213 and
R218). -/
def Obligations.JumpsAndBranchesComplete : Prop :=
  ∀ (s : State) (w : Addr) (d : Byte),
    let low := memRead w s
    let high := memRead (BitVec.ofNat 16 (w.toNat / 256 * 256 + (w.toNat + 1) % 256)) low.2
    runs (.jmpAbs w) [0x4C#8, operandLo w, operandHi w] 3 s { s with pc := w } ∧
    runs (.jmpInd w) [0x6C#8, operandLo w, operandHi w] 5 s { high.2 with pc := wordOf high.1 low.1 } ∧
    branches (.bcc d) [0x90#8, d] (!s.p.getLsbD 0) d s ∧ branches (.bcs d) [0xB0#8, d] (s.p.getLsbD 0) d s ∧
    branches (.beq d) [0xF0#8, d] (s.p.getLsbD 1) d s ∧ branches (.bne d) [0xD0#8, d] (!s.p.getLsbD 1) d s ∧
    branches (.bmi d) [0x30#8, d] (s.p.getLsbD 7) d s ∧ branches (.bpl d) [0x10#8, d] (!s.p.getLsbD 7) d s ∧
    branches (.bvc d) [0x50#8, d] (!s.p.getLsbD 6) d s ∧ branches (.bvs d) [0x70#8, d] (s.p.getLsbD 6) d s

/-- BRK: the padding byte skipped, `PC` and `P` with B set pushed, I set and D left, `PC` from $FFFE (43_control_flow.md R222:
decisions D6, D10). -/
def Obligations.BrkEntersItsHandler : Prop :=
  ∀ s : State,
    runs .brk [0x00#8] 7 s
      { s with
        ram := ram3 s (hiByte (s.pc + 1#16)) (loByte (s.pc + 1#16)) (s.p ||| 0x30#8), s := s.s - 3#8, p := s.p ||| 0x04#8,
        pc := wordOf (peek 0xFFFF#16 s) (peek 0xFFFE#16 s) }

/-- RTI pulls the status, bits 5 and 4 ignored, then `PC` with no increment (43_control_flow.md R223). -/
def Obligations.RtiPullsStatusThenPc : Prop :=
  ∀ s : State,
    runs .rti [0x40#8] 6 s
      { s with p := (stacked s 1 &&& 0xCF#8) ||| 0x20#8, s := s.s + 3#8, pc := wordOf (stacked s 3) (stacked s 2) }

/-- PHA, PHP, PLA, PLP (44_stack_flags.md R230 to R233, marked `[from general knowledge, not in source]`; decision D6). -/
def Obligations.StackInstructionsCompleteOnTheStack : Prop :=
  ∀ s : State,
    runs .pha [0x48#8] 3 s { s with ram := ram1 s s.a, s := s.s - 1#8 } ∧
    runs .php [0x08#8] 3 s { s with ram := ram1 s (s.p ||| 0x30#8), s := s.s - 1#8 } ∧
    runs .pla [0x68#8] 4 s { s with a := stacked s 1, s := s.s + 1#8, p := nz (stacked s 1) s.p } ∧
    runs .plp [0x28#8] 4 s { s with p := (stacked s 1 &&& 0xCF#8) ||| 0x20#8, s := s.s + 1#8 }

/-- CLC, SEC, CLI, SEI, CLV, CLD, SED, NOP (44_stack_flags.md R234 to R240, 43_control_flow.md R224, marked
`[from general knowledge, not in source]` but for R240). -/
def Obligations.FlagInstructionsAndNopComplete : Prop :=
  ∀ s : State,
    runs .clc [0x18#8] 2 s { s with p := s.p &&& 0xFE#8 } ∧ runs .sec [0x38#8] 2 s { s with p := s.p ||| 0x01#8 } ∧
    runs .cli [0x58#8] 2 s { s with p := s.p &&& 0xFB#8 } ∧ runs .sei [0x78#8] 2 s { s with p := s.p ||| 0x04#8 } ∧
    runs .clv [0xB8#8] 2 s { s with p := s.p &&& 0xBF#8 } ∧ runs .cld [0xD8#8] 2 s { s with p := s.p &&& 0xF7#8 } ∧
    runs .sed [0xF8#8] 2 s { s with p := s.p ||| 0x08#8 } ∧ runs .nop [0xEA#8] 2 s s

/-- The 53 holes change nothing and take one cycle (45_illegal.md R262, 30_encoding.md R150, R151: decision D5). -/
def Obligations.HolesCompleteWithNoEffect : Prop := ∀ s : State, ∀ f ∈ holeForms, runs f.1 f.2 1 s s

/-! Frames -/

/-- What no instruction but the named writes: A, X, Y, S, PC (10_state.md R20 to R22, derived there), and what none writes: the cycle
counter, the request latches, the configuration, the host's side, the instruction record. -/
def Obligations.InstructionsLeaveTheOtherRegisters : Prop :=
  ∀ (i : Instr) (s t : State), exec i s = .next t →
    (i.op ∉ writersA → ¬(i.op ∈ shifts ∧ i.mode = .acc) → t.a = s.a) ∧
    (i.op ∉ writersX → t.x = s.x) ∧ (i.op ∉ writersY → t.y = s.y) ∧ (i.op ∉ writersS → t.s = s.s) ∧
    (i.op ∉ writersPc → t.pc = s.pc) ∧
    t.cycles = s.cycles ∧ t.irqPending = s.irqPending ∧ t.nmiPending = s.nmiPending ∧ t.cfg = s.cfg ∧ t.host = s.host ∧ t.cur = s.cur

/-- No instruction but its writers changes a flag (10_state.md R25 to R30), and none changes bits 5 and 4 of a well-formed status
(R24: decision D6). The writer lists are derived in the spec. -/
def Obligations.InstructionsLeaveTheOtherFlags : Prop :=
  ∀ (i : Instr) (s t : State), exec i s = .next t →
    (∀ f ∈ flagWriters, i.op ∉ f.2 → t.p &&& f.1 = s.p &&& f.1) ∧
    (s.p &&& 0x30#8 = 0x20#8 → t.p &&& 0x30#8 = 0x20#8)

/-- An instruction that stores nothing and pushes nothing leaves every memory, the DMA engine, the APU stub and the mapper as they are,
and every byte outside the PPU's registers and the controller port reads as before; and where its data reads are at addresses whose
read has no side effect, the PPU and the controller are unchanged and every byte reads as before (20_memory.md R86, R87; decision D3). -/
def Obligations.NonStoringInstructionsLeaveMemory : Prop :=
  ∀ (i : Instr) (s t : State), (i.op ∉ storing ∨ i.mode = .acc) → i.op ∉ pushing → exec i s = .next t →
    (t.ram = s.ram ∧ t.wram = s.wram ∧ t.chrRam = s.chrRam ∧ t.dma = s.dma ∧ t.apu = s.apu ∧ t.mapper = s.mapper ∧
      t.mirroring = s.mirroring ∧ t.ppu.oam = s.ppu.oam ∧ t.ppu.palette = s.ppu.palette ∧ t.ppu.nt = s.ppu.nt ∧
      t.ppu.ntExt = s.ppu.ntExt ∧ t.ppu.fb = s.ppu.fb) ∧
    (∀ a, quiet a → peek a t = peek a s) ∧
    ((∀ e ∈ dataReads i s, quiet e) → t.ppu = s.ppu ∧ t.pad = s.pad ∧ ∀ a, peek a t = peek a s)

/-- A form that stores to a data address changes no byte that the store does not touch, and no device but the one at that address
(20_memory.md R73, R74, 30_encoding.md R134; decision D3). -/
def Obligations.StoringInstructionsLeaveTheOtherBytes : Prop :=
  ∀ (i : Instr) (s t : State) (e : Addr), i.op ∈ storing → dataAddr i s = some e → exec i s = .next t →
    (∀ b, ¬ touched e b s → peek b t = peek b s) ∧
    (0x2000#16 ≤ e → t.ram = s.ram) ∧
    (e < 0x2000#16 ∨ 0x4000#16 ≤ e → t.ppu = s.ppu ∧ t.chrRam = s.chrRam) ∧
    (e ≠ 0x4014#16 → t.dma = s.dma) ∧ (e ≠ 0x4016#16 → t.pad = s.pad) ∧
    (e < 0x4000#16 ∨ 0x4018#16 ≤ e → t.apu = s.apu) ∧
    (e < 0x6000#16 ∨ 0x8000#16 ≤ e → t.wram = s.wram) ∧
    (e < 0x8000#16 → t.mapper = s.mapper ∧ t.mirroring = s.mirroring)

/-- PHA, PHP, JSR and BRK change no byte outside the one, two or three stack slots they push to, with their RAM mirrors, and nothing
else but S, P, PC and the cycles owed (20_memory.md R82, R84, derived there). -/
def Obligations.PushingInstructionsLeaveTheOtherBytes : Prop :=
  ∀ (i : Instr) (s t : State) (n : Nat),
    (i.op = .pha ∨ i.op = .php) ∧ n = 1 ∨ i.op = .jsr ∧ n = 2 ∨ i.op = .brk ∧ n = 3 →
    exec i s = .next t →
    t = { s with ram := t.ram, s := s.s - BitVec.ofNat 8 n, p := t.p, pc := t.pc, idle := t.idle } ∧
    ∀ b : Addr, (∀ k, k < n → ¬(b < 0x2000#16 ∧ b.toNat % 2048 = (stackAddr (s.s - BitVec.ofNat 8 k)).toNat)) → peek b t = peek b s

/-! Memory and the cartridge -/

/-- "A write through one mirror is seen through all four" (20_memory.md R74), and no other cell changes. -/
def Obligations.RamIsMirroredEvery2KiB : Prop :=
  ∀ (s : State) (a b : Addr) (v : Byte), a ≤ 0x1FFF#16 → b ≤ 0x1FFF#16 →
    peek b (memWrite a v s) = if b.toNat % 2048 = a.toNat % 2048 then v else peek b s

/-- WRAM holds what is stored, always enabled, whatever the mapper (52_mappers.md R458, R460, R461: decision D24); an unclaimed address
reads $00 and ignores a write (20_memory.md R77: decision D4); port 2 reads $00 (50_bus_devices.md R333); the APU stub keeps the bytes
written to it, reads $00, and nothing else changes (50_bus_devices.md R335, R336). -/
def Obligations.WramApuAndUnclaimedAddresses : Prop :=
  ∀ (s : State) (a b : Addr) (v : Byte),
    (0x6000#16 ≤ a → a < 0x8000#16 → 0x6000#16 ≤ b → b < 0x8000#16 → peek b (memWrite a v s) = if b = a then v else peek b s) ∧
    ((0x4000#16 ≤ a ∧ a ≤ 0x4015#16) ∨ (0x4017#16 ≤ a ∧ a < 0x6000#16) → memRead a s = (0x00#8, s)) ∧
    (0x4018#16 ≤ a → a < 0x6000#16 → memWrite a v s = s) ∧
    ((0x4000#16 ≤ a ∧ a ≤ 0x4013#16) ∨ a = 0x4015#16 ∨ a = 0x4017#16 →
      memWrite a v s = { s with apu := (memWrite a v s).apu } ∧
      ∀ k, k < 24 → Memory.read (memWrite a v s).apu k = if k = a.toNat % 32 then v else Memory.read s.apu k)

/-- What is pushed is what is pulled: PHA and PLA, PHP and PLP on a well-formed status, JSR and RTS, in every state, the stack pointer
wrapping (20_memory.md R83, R84, derived there; decision D13). -/
def Obligations.StackPairsRoundTrip : Prop :=
  ∀ (s t u : State) (w : Addr),
    (exec .pha s = .next t → exec .pla t = .next u → u.a = s.a ∧ u.s = s.s) ∧
    (s.p &&& 0x30#8 = 0x20#8 → exec .php s = .next t → exec .plp t = .next u → u.p = s.p ∧ u.s = s.s) ∧
    (exec (.jsr w) s = .next t → exec .rts t = .next u → u.pc = s.pc ∧ u.s = s.s)

/-- NROM's CPU side: bank 0 and bank 1, or the one bank twice (52_mappers.md R463). -/
def Obligations.NromShowsItsBanks : Prop :=
  ∀ (s : State) (o : Nat), s.mapper = .nrom → o < 16384 →
    (s.cfg.cart.prgBanks = 2 → peek (BitVec.ofNat 16 (0x8000 + o)) s = Memory.read s.cfg.cart.prg o ∧
      peek (BitVec.ofNat 16 (0xC000 + o)) s = Memory.read s.cfg.cart.prg (16384 + o)) ∧
    (s.cfg.cart.prgBanks = 1 → peek (BitVec.ofNat 16 (0x8000 + o)) s = Memory.read s.cfg.cart.prg o ∧
      peek (BitVec.ofNat 16 (0xC000 + o)) s = Memory.read s.cfg.cart.prg o) ∧
    (∀ n a, s.cfg.cart.prgBanks = n → 0x8000 ≤ a → a < 0x10000 →
      peek (BitVec.ofNat 16 a) s = Memory.read s.cfg.cart.prg (a / 16384 % 2 % n * 16384 + a % 16384))

/-- The bank-view tables, in numbers from the mapper's registers: which banks each mapper's windows show, modulo the bank counts. They
are what the CPU and the PPU see: the byte at offset `o` of a window is the ROM byte at the window's span plus `o`, a PPU write goes to
the same place of CHR RAM and nowhere when CHR is ROM, and the windows cover $8000-$FFFF and $0000-$1FFF without a gap (10_state.md R53,
52_mappers.md R456, R457, R463, R464, R473, R474, R480, R481, R493, R494, R500, R501: decisions D22, D23, D28, D29, and
`[from general knowledge, not in source]` for the window tables). -/
def Obligations.BankViewIsWhatIsRead : Prop :=
  ∀ s : State,
    (1 ≤ s.cfg.cart.prgBanks → prgView s =
      windows 0x8000 (prgWindow s.mapper) (16384 * s.cfg.cart.prgBanks) (prgBanksShown s.cfg.cart.prgBanks s.mapper)) ∧
    chrView s = windows 0 (chrWindow s.mapper) (8192 * max s.cfg.cart.chrBanks 1) (chrBanksShown s.mapper) ∧
    (∀ w ∈ prgView s, ∀ o, o < w.2.1 →
      peek (BitVec.ofNat 16 (w.1 + o)) s = Memory.read s.cfg.cart.prg (w.2.2 + o)) ∧
    (∀ w ∈ chrView s, ∀ o, o < w.2.1 →
      ppuRead (BitVec.ofNat 16 (w.1 + o)) s =
        Memory.read (if s.cfg.cart.chrBanks = 0 then s.chrRam else s.cfg.cart.chr) (w.2.2 + o) ∧
      ∀ v, ppuWrite (BitVec.ofNat 16 (w.1 + o)) v s =
        if s.cfg.cart.chrBanks = 0 then { s with chrRam := Memory.write s.chrRam (w.2.2 + o) v } else s) ∧
    (∀ a, 0x8000 ≤ a → a < 0x10000 → ∃ w ∈ prgView s, w.1 ≤ a ∧ a < w.1 + w.2.1) ∧
    (∀ a, a < 0x2000 → ∃ w ∈ chrView s, w.1 ≤ a ∧ a < w.1 + w.2.1)

/-- After power-up the reset vector is the word at the fourth-last and third-last bytes of the PRG data (70_reset_and_hazards.md R562, derived
there; decision D8). -/
def Obligations.ResetVectorComesFromTheLastBank : Prop :=
  ∀ l : Launch, l.wf → (l.cfg.cart.mapper = .nrom → l.cfg.cart.prgBanks ≤ 2) →
    let size := 16384 * l.cfg.cart.prgBanks
    (powerUp l).pc = wordOf (Memory.read l.cfg.cart.prg (size - 3)) (Memory.read l.cfg.cart.prg (size - 4))

/-- SxROM's serial port: five writes to $8000-$FFFF with bit 7 clear load the number their bits 0 make, the first lowest, into the
register the fifth address names; a write with bit 7 set restarts the sequence and forces PRG mode 3 (52_mappers.md R471, R472:
decision D22). -/
def Obligations.SxromSerialPortLoadsARegister : Prop :=
  ∀ (s : State) (m : SxRegs) (a0 a1 a2 a3 a4 : Addr) (d0 d1 d2 d3 d4 : Byte),
    s.mapper = .sxrom m →
    (0x8000#16 ≤ a0 ∧ 0x8000#16 ≤ a1 ∧ 0x8000#16 ≤ a2 ∧ 0x8000#16 ≤ a3 ∧ 0x8000#16 ≤ a4) →
    (m.count = 0 →
      (d0.getLsbD 7 = false ∧ d1.getLsbD 7 = false ∧ d2.getLsbD 7 = false ∧ d3.getLsbD 7 = false ∧ d4.getLsbD 7 = false) →
      let t := memWrite a4 d4 (memWrite a3 d3 (memWrite a2 d2 (memWrite a1 d1 (memWrite a0 d0 s))))
      let v := serial (d0.getLsbD 0) (d1.getLsbD 0) (d2.getLsbD 0) (d3.getLsbD 0) (d4.getLsbD 0)
      (a4 < 0xA000#16 → t.mapper = .sxrom { m with shift := 0, count := 0, control := v }) ∧
      (0xA000#16 ≤ a4 → a4 < 0xC000#16 → t.mapper = .sxrom { m with shift := 0, count := 0, chr0 := v }) ∧
      (0xC000#16 ≤ a4 → a4 < 0xE000#16 → t.mapper = .sxrom { m with shift := 0, count := 0, chr1 := v }) ∧
      (0xE000#16 ≤ a4 → t.mapper = .sxrom { m with shift := 0, count := 0, prg := v }) ∧
      t.mirroring = (if a4 < 0xA000#16 ∧ s.cfg.cart.mirroring ≠ .fourScreen then
        ([.singleLow, .singleHigh, .vertical, .horizontal].getD (v.toNat % 4) .horizontal) else s.mirroring)) ∧
    (d0.getLsbD 7 = true → memWrite a0 d0 s = { s with mapper := .sxrom { m with shift := 0, count := 0, control := m.control ||| 0x0C#5 } })

/-- TxROM's eight registers by `addr & $E001` (52_mappers.md R490, R503, R504, R506: decision D23). -/
def Obligations.TxromWritesItsRegisters : Prop :=
  ∀ (s : State) (m : TxRegs) (a : Addr) (d : Byte), s.mapper = .txrom m → 0x8000#16 ≤ a →
    let key := a &&& 0xE001#16
    (key = 0x8000#16 → memWrite a d s = { s with mapper := .txrom { m with select := d } }) ∧
    (key = 0x8001#16 → memWrite a d s = { s with mapper := .txrom { m with r := Memory.write m.r (m.select.toNat % 8) d } }) ∧
    (key = 0xA000#16 → memWrite a d s = if s.cfg.cart.mirroring = .fourScreen then s
      else { s with mirroring := if d.getLsbD 0 then .horizontal else .vertical }) ∧
    (key = 0xA001#16 → memWrite a d s = { s with mapper := .txrom { m with ramProtect := d } }) ∧
    (key = 0xC000#16 → memWrite a d s = { s with mapper := .txrom { m with irqLatch := d } }) ∧
    (key = 0xC001#16 → memWrite a d s = { s with mapper := .txrom { m with irqReload := true } }) ∧
    (key = 0xE000#16 → memWrite a d s = { s with mapper := .txrom { m with irqEnable := false } }) ∧
    (key = 0xE001#16 → memWrite a d s = { s with mapper := .txrom { m with irqEnable := true } })

/-! Exceptions -/

/-- NMI and IRQ entry at the poll: the latch cleared, `PC` and `P` with B clear pushed, D cleared, I set, `PC` from the vector, 7 cycles
(60_exceptions.md R523, R524, R530, R531: decisions D3, D6, D9, D13). -/
def Obligations.InterruptEntrySavesAndVectors : Prop :=
  ∀ s : State, s.idle = 0 →
    let saved := ram3 s (hiByte s.pc) (loByte s.pc) ((s.p &&& 0xEF#8) ||| 0x20#8)
    (s.nmiPending = true → cpuCycle s = .next
      { s with
        nmiPending := false, ram := saved, s := s.s - 3#8, p := (s.p &&& 0xF7#8) ||| 0x04#8,
        pc := wordOf (peek 0xFFFB#16 s) (peek 0xFFFA#16 s), idle := 6 }) ∧
    (s.nmiPending = false → s.irqPending = true → s.p.getLsbD 2 = false → cpuCycle s = .next
      { s with
        irqPending := false, ram := saved, s := s.s - 3#8, p := (s.p &&& 0xF7#8) ||| 0x04#8,
        pc := wordOf (peek 0xFFFF#16 s) (peek 0xFFFE#16 s), idle := 6 })

/-- The latches are examined at an instruction boundary and nowhere else (60_exceptions.md R522): a CPU slot of a DMA (R528: decision
D31), and one with cycles still owed, leave the latches and every CPU register but the count; the poll replaces the fetch, NMI before
IRQ, and clears the latch it serves (R523, R524, R525: decision D9), with the address of the instruction that would have run on the stack
(R530: decision D13); with nothing to take the instruction at `PC` runs. That `cur` is kept by an entry is the model's choice (log 5). -/
def Obligations.LatchesAreExaminedOnlyAtBoundaries : Prop :=
  ∀ s : State,
    (s.dma.active = true → ∃ t, cpuSlot s = .next t ∧ t.irqPending = s.irqPending ∧ t.nmiPending = s.nmiPending ∧ t.idle = s.idle ∧
      t.a = s.a ∧ t.x = s.x ∧ t.y = s.y ∧ t.s = s.s ∧ t.p = s.p ∧ t.pc = s.pc) ∧
    (s.dma.active = false → 0 < s.idle → cpuSlot s = .next { s with idle := s.idle - 1 }) ∧
    (s.dma.active = false → s.idle = 0 → s.nmiPending = true → ∃ t, cpuSlot s = .next t ∧ t.nmiPending = false ∧
      t.irqPending = s.irqPending ∧ t.cur = s.cur ∧ stacked t 3 = hiByte s.pc ∧ stacked t 2 = loByte s.pc) ∧
    (s.dma.active = false → s.idle = 0 → s.nmiPending = false → s.irqPending = true → s.p.getLsbD 2 = false → ∃ t, cpuSlot s = .next t ∧
      t.irqPending = false ∧ t.nmiPending = false ∧ t.cur = s.cur ∧ stacked t 3 = hiByte s.pc ∧ stacked t 2 = loByte s.pc) ∧
    (s.dma.active = false → s.idle = 0 → s.nmiPending = false → (s.irqPending = false ∨ s.p.getLsbD 2 = true) →
      ∃ t, cpuSlot s = .next t ∧ exec (fetchInstr s).1 (fetchInstr s).2 = .next t ∧ t.irqPending = s.irqPending ∧ t.nmiPending = false)

/-- RTI undoes an NMI or IRQ entry and a BRK entry: `PC` (past BRK's padding byte), P and S as they were, A, X, Y untouched
(60_exceptions.md R535, 43_control_flow.md R222, R223; decisions D3, D6). -/
def Obligations.RtiUndoesAnEntry : Prop :=
  ∀ (s t u : State) (vec : Addr), s.p &&& 0x30#8 = 0x20#8 → 0x6000#16 ≤ vec →
    (exec .rti (interruptEntry vec s) = .next u → u.pc = s.pc ∧ u.p = s.p ∧ u.s = s.s ∧ u.a = s.a ∧ u.x = s.x ∧ u.y = s.y) ∧
    (exec .brk s = .next t → exec .rti t = .next u → u.pc = s.pc + 1#16 ∧ u.p = s.p ∧ u.s = s.s ∧ u.a = s.a ∧ u.x = s.x ∧ u.y = s.y)

/-! Devices -/

/-- OAM DMA from any page: it holds the CPU for 513 cycles from an even cycle and 514 from an odd one, and leaves what 256 bus reads of
the page in order, with their side effects, and 256 writes to OAM leave; a step with a DMA in flight is the host's turn, one cycle of the
engine and the three dots. Over steps in which the host does nothing: the engine is active for as many, every CPU register and the cycles
owed are frozen, the cycle counter runs on, and from a page of plain memory OAM ends up the page, byte for byte
(50_bus_devices.md R300, R320 to R325: decisions D14, D31). -/
def Obligations.DmaCopiesThePageInto513Or514Cycles : Prop :=
  (∀ (s : State) (v : Byte),
    let n := if s.cycles.getLsbD 0 then 514 else 513
    let s0 := memWrite 0x4014#16 v s
    (∀ k, k < n → (afterDma k s0).dma.active = true) ∧ (afterDma n s0).dma.active = false ∧
    { afterDma n s0 with dma := s.dma } = moves v 256 s ∧
    ((v < 0x20#8 ∨ 0x60#8 ≤ v) → ∀ i : Byte, Memory.read (afterDma n s0).ppu.oam i.toNat = peek (wordOf v i) s)) ∧
  (∀ s : State, (hostTurn s).dma.active = true → step s = .next (finishTick (dmaCycle (hostTurn s)))) ∧
  (∀ (s : State) (v : Byte), s.host.script = [] →
    let n := if s.cycles.getLsbD 0 then 514 else 513
    let s0 := finishTick (memWrite 0x4014#16 v s)
    (∀ k, k ≤ n →
      let t := afterSteps k s0
      t.dma.active = decide (k < n) ∧ t.a = s.a ∧ t.x = s.x ∧ t.y = s.y ∧ t.s = s.s ∧ t.p = s.p ∧ t.pc = s.pc ∧ t.idle = s.idle ∧
        t.cycles = s.cycles + BitVec.ofNat 64 (k + 1)) ∧
    ((v < 0x20#8 ∨ 0x60#8 ≤ v) → ∀ i : Byte, Memory.read (afterSteps n s0).ppu.oam i.toNat = peek (wordOf v i) s))

/-- The controller: after a strobe write of 1 and one of 0, reads return the buttons of bits 0 to 7 in order, then 1; while the strobe
is high every read returns button A (50_bus_devices.md R331, R332: decision D27). -/
def Obligations.ControllerShiftsItsButtonsOut : Prop :=
  ∀ (s : State) (v v' : Byte) (k : Nat), v.getLsbD 0 = true → v'.getLsbD 0 = false →
    let high := memWrite 0x4016#16 v s
    let low := memWrite 0x4016#16 v' high
    (peek 0x4016#16 (afterReads k low)).toNat = (if k < 8 then (s.host.buttons.getLsbD k).toNat else 1) ∧
    (peek 0x4016#16 (afterReads k high)).toNat = (s.host.buttons.getLsbD 0).toNat

/-! The PPU -/

/-- PPUSTATUS at every mirror: the three flags, the other bits 0; the read clears vblank and the write latch and nothing else
(51_ppu.md R350, R354: decision D17). -/
def Obligations.PpuStatusReadClearsVblankAndLatch : Prop :=
  ∀ (s : State) (a : Addr), 0x2000#16 ≤ a → a ≤ 0x3FFF#16 → a.toNat % 8 = 2 →
    (peek a s).toNat = 128 * s.ppu.vblank.toNat + 64 * s.ppu.spr0hit.toNat + 32 * s.ppu.overflow.toNat ∧
    (memRead a s).2 = { s with ppu := { s.ppu with vblank := false, w := false } }

/-- The ports that set a register, at every mirror of 8: PPUCTRL and the nametable of `t`, PPUMASK, OAMADDR, OAMDATA with its increment,
PPUSCROLL in pairs (the fields of `t` and fine X, `v` left), PPUADDR in pairs (`v` and `t`); a write to PPUSTATUS changes nothing, and a
read of a write-only register gives $00. Each write of PPUSCROLL and PPUADDR is given alone too, from either value of the latch the two
share, so that a lone second write and any mixing of the two are covered (51_ppu.md R350, R352, R353, R355 to R358, R362,
70_reset_and_hazards.md R572: decisions D17, D19). -/
def Obligations.PpuPortsSetTheirRegisters : Prop :=
  ∀ (s : State) (port : Nat → Addr) (d e : Byte), (∀ i, i < 8 → 0x2000#16 ≤ port i ∧ port i ≤ 0x3FFF#16 ∧ (port i).toNat % 8 = i) →
    (let t := memWrite (port 0) d s
     t = { s with ppu := { s.ppu with ctrl := d, t := t.ppu.t } } ∧ tableX t.ppu.t = d.toNat % 2 ∧ tableY t.ppu.t = d.toNat / 2 % 2 ∧
     coarseX t.ppu.t = coarseX s.ppu.t ∧ coarseY t.ppu.t = coarseY s.ppu.t ∧ fineY t.ppu.t = fineY s.ppu.t) ∧
    memWrite (port 1) d s = { s with ppu := { s.ppu with mask := d } } ∧
    memWrite (port 2) d s = s ∧
    memWrite (port 3) d s = { s with ppu := { s.ppu with oamaddr := d } } ∧
    (let t := memWrite (port 4) d s
     t = { s with ppu := { s.ppu with oam := t.ppu.oam, oamaddr := s.ppu.oamaddr + 1#8 } } ∧
     (∀ k : Byte, Memory.read t.ppu.oam k.toNat = if k = s.ppu.oamaddr then d else Memory.read s.ppu.oam k.toNat) ∧
     memRead (port 4) s = (Memory.read s.ppu.oam s.ppu.oamaddr.toNat, s)) ∧
    (s.ppu.w = false →
      let t := memWrite (port 5) e (memWrite (port 5) d s)
      t = { s with ppu := { s.ppu with t := t.ppu.t, x := d.setWidth 3 } } ∧
      coarseX t.ppu.t = d.toNat / 8 ∧ coarseY t.ppu.t = e.toNat / 8 ∧ fineY t.ppu.t = e.toNat % 8 ∧
      tableX t.ppu.t = tableX s.ppu.t ∧ tableY t.ppu.t = tableY s.ppu.t) ∧
    (s.ppu.w = false →
      memWrite (port 6) e (memWrite (port 6) d s) =
        { s with ppu := { s.ppu with
            v := BitVec.ofNat 15 (d.toNat % 64 * 256 + e.toNat), t := BitVec.ofNat 15 (d.toNat % 64 * 256 + e.toNat) } }) ∧
    (let t := memWrite (port 5) d s
     t = { s with ppu := { s.ppu with t := t.ppu.t, x := if s.ppu.w then s.ppu.x else d.setWidth 3, w := !s.ppu.w } } ∧
     coarseX t.ppu.t = (if s.ppu.w then coarseX s.ppu.t else d.toNat / 8) ∧
     coarseY t.ppu.t = (if s.ppu.w then d.toNat / 8 else coarseY s.ppu.t) ∧
     fineY t.ppu.t = (if s.ppu.w then d.toNat % 8 else fineY s.ppu.t) ∧
     tableX t.ppu.t = tableX s.ppu.t ∧ tableY t.ppu.t = tableY s.ppu.t) ∧
    (let low := BitVec.ofNat 15 (s.ppu.t.toNat / 256 * 256 + d.toNat)
     let high := BitVec.ofNat 15 (d.toNat % 64 * 256 + s.ppu.t.toNat % 256)
     memWrite (port 6) d s = if s.ppu.w then { s with ppu := { s.ppu with t := low, v := low, w := false } }
       else { s with ppu := { s.ppu with t := high, w := true } }) ∧
    ∀ i ∈ [0, 1, 3, 5, 6], memRead (port i) s = (0x00#8, s)

/-- PPUDATA: below the palette a read returns the byte buffered by the read before and buffers the byte at `v`, so the second read
returns it; a palette read returns at once; a write stores at `v`; each advances `v` by 1 or 32; all at every mirror of $2007
(51_ppu.md R350, R359 to R361, 70_reset_and_hazards.md R571: decision D20; what a write reaches: 20_memory.md R101, R103, decision D37, and
52_mappers.md R457, decision D28). -/
def Obligations.PpuDataReadsAreBufferedAndWritesStore : Prop :=
  ∀ (s : State) (port again : Addr) (d : Byte),
    0x2000#16 ≤ port ∧ port ≤ 0x3FFF#16 ∧ port.toNat % 8 = 7 → 0x2000#16 ≤ again ∧ again ≤ 0x3FFF#16 ∧ again.toNat % 8 = 7 →
    let next := s.ppu.v + if s.ppu.ctrl.getLsbD 2 then 32#15 else 1#15
    let a := s.ppu.v.toNat % 16384
    let r := memRead port s
    let t := memWrite port d s
    r.2 = { s with ppu := { s.ppu with v := next, readbuf := r.2.ppu.readbuf } } ∧
    (a < 0x3F00 → r.1 = s.ppu.readbuf ∧ r.2.ppu.readbuf = ppuRead (BitVec.ofNat 16 a) s) ∧
    (a < 0x3F00 → next.toNat % 16384 < 0x3F00 → peek again r.2 = ppuRead (BitVec.ofNat 16 a) s) ∧
    (0x3F00 ≤ a → r.1 = ppuRead (BitVec.ofNat 16 a) s ∧ r.2.ppu.readbuf = ppuRead (BitVec.ofNat 16 (a - 0x1000)) s) ∧
    t.ppu.v = next ∧ t.ppu.readbuf = s.ppu.readbuf ∧
    (0x2000 ≤ a → a < 0x3F00 → ppuRead (BitVec.ofNat 16 a) t = d) ∧
    (0x3F00 ≤ a → ppuRead (BitVec.ofNat 16 a) t = d &&& 0x3F#8) ∧
    (a < 0x2000 → s.cfg.cart.chrBanks = 0 → ppuRead (BitVec.ofNat 16 a) t = d) ∧
    (a < 0x2000 → 0 < s.cfg.cart.chrBanks → t = { s with ppu := { s.ppu with v := next } })

/-- The PPU's nametables mirror by the mode in force and its palette by the aliases of entry 0; what is written is read at every alias
and nowhere else (20_memory.md R101 to R103: decisions D20, D37). -/
def Obligations.PpuMemoriesMirror : Prop :=
  ∀ (s : State) (a b : Nat) (v : Byte),
    (0x2000 ≤ a → a < 0x3F00 → 0x2000 ≤ b → b < 0x3F00 →
      ppuRead (BitVec.ofNat 16 b) (ppuWrite (BitVec.ofNat 16 a) v s) =
        if ntCell s.mirroring b = ntCell s.mirroring a then v else ppuRead (BitVec.ofNat 16 b) s) ∧
    (0x3F00 ≤ a → a < 0x4000 → 0x3F00 ≤ b → b < 0x4000 →
      ppuRead (BitVec.ofNat 16 b) (ppuWrite (BitVec.ofNat 16 a) v s) =
        if palCell b = palCell a then v &&& 0x3F#8 else ppuRead (BitVec.ofNat 16 b) s)

/-- Dot 1 of scanline 241 sets vblank and `frame_done` and raises NMI if PPUCTRL bit 7 is set; it is the only dot that does; only dot 1
of scanline 261 clears vblank (51_ppu.md R371, R373: decisions D15, D21). -/
def Obligations.VblankStartRaisesNmiAndNothingElseDoes : Prop :=
  ∀ s : State,
    (s.ppu.scanline = 241 → s.ppu.dot = 1 →
      (ppuDot s).ppu.vblank = true ∧ (ppuDot s).ppu.frameDone = true ∧
      (ppuDot s).nmiPending = (s.nmiPending || decide (128 ≤ s.ppu.ctrl.toNat))) ∧
    (¬(s.ppu.scanline = 241 ∧ s.ppu.dot = 1) →
      (ppuDot s).nmiPending = s.nmiPending ∧ (ppuDot s).ppu.frameDone = s.ppu.frameDone ∧
      (¬(s.ppu.scanline = 261 ∧ s.ppu.dot = 1) → (ppuDot s).ppu.vblank = s.ppu.vblank))

/-- "Dot 1 of the pre-render line clears vblank, sprite-0-hit, and overflow flags", whether or not rendering is enabled
(51_ppu.md R374). -/
def Obligations.PreRenderLineClearsTheFlags : Prop :=
  ∀ s : State, s.ppu.scanline = 261 → s.ppu.dot = 1 →
    (ppuDot s).ppu.vblank = false ∧ (ppuDot s).ppu.spr0hit = false ∧ (ppuDot s).ppu.overflow = false

/-- A dot moves the position on by one in a frame of 262 lines of 341 dots, and the sprite buffers flip at the end of every line
(51_ppu.md R381). -/
def Obligations.DotAdvancesTheFrame : Prop :=
  ∀ s : State, positionOk s.ppu →
    framePosition (ppuDot s).ppu = (framePosition s.ppu + 1) % 89342 ∧ positionOk (ppuDot s).ppu ∧
    (s.ppu.dot = 340 → (ppuDot s).ppu.sprCur = s.ppu.sprNext ∧ (ppuDot s).ppu.sprNext = []) ∧
    (s.ppu.dot ≠ 340 → (ppuDot s).ppu.sprCur = s.ppu.sprCur)

/-- Sprite evaluation fills the slots with the first eight sprites in range in OAM order, and sets overflow exactly when there is a
ninth. On a visible line with rendering enabled the evaluation is the work of dot 257, slot `i` takes its low plane at dot 261 + 8`i` and
its high plane at dot 263 + 8`i`, each flipped with attribute bit 6, and no other dot touches the slots being filled until the line ends;
on every other line, and with rendering disabled, no dot of the line does (51_ppu.md R410, R412 to R414: decision D18, R414 marked
`[from general knowledge, not in source]`). That Y = $EF is in range of line 239, so that it takes a slot there and counts for the
overflow, is the model's choice between R412's pseudocode and its last sentence (log 17). -/
def Obligations.SpriteEvaluationTakesTheFirstEight : Prop :=
  (∀ (line : Nat) (p : Ppu),
    (spriteEval line p).sprNext = ((spritesOnLine line p).take 8).map (oamSlot p) ∧
    (spriteEval line p).overflow = (p.overflow || decide (8 < (spritesOnLine line p).length)) ∧
    spriteEval line p = { p with sprNext := (spriteEval line p).sprNext, overflow := (spriteEval line p).overflow }) ∧
  ∀ s : State,
    let p := s.ppu
    let q := (ppuDot s).ppu
    (p.scanline ≤ 239 → rendering p = true →
      (p.dot = 257 → q.sprNext = ((spritesOnLine p.scanline p).take 8).map (oamSlot p) ∧
        q.overflow = (p.overflow || decide (8 < (spritesOnLine p.scanline p).length))) ∧
      (∀ i, i < 8 → p.dot = 261 + 8 * i → q.sprNext = p.sprNext.modify i fun e =>
        { e with patLo := plane e (ppuRead (spriteRowAddr p p.scanline e) s) }) ∧
      (∀ i, i < 8 → p.dot = 263 + 8 * i → q.sprNext = p.sprNext.modify i fun e =>
        { e with patHi := plane e (ppuRead (spriteRowAddr p p.scanline e ||| 0x0008#16) s) }) ∧
      (p.dot ≠ 257 → p.dot ≠ 340 → (∀ i, i < 8 → p.dot ≠ 261 + 8 * i ∧ p.dot ≠ 263 + 8 * i) → q.sprNext = p.sprNext) ∧
      (p.dot ≠ 257 → q.overflow = p.overflow)) ∧
    (239 < p.scanline ∨ rendering p = false → p.dot ≠ 340 → q.sprNext = p.sprNext ∧
      (¬(p.scanline = 261 ∧ p.dot = 1) → q.overflow = p.overflow))

/-- Priority: both transparent, the backdrop; only one opaque, that one; both opaque, the sprite unless its bit 5 is set; and the first
opaque sprite is chosen before the priority test (51_ppu.md R431). -/
def Obligations.PixelPriority : Prop :=
  (∀ (bg : Nat × Nat) (sp : SpritePixel),
    (bg.1 = 0 → sp.pix = 0 → pixelIndex bg sp = 0) ∧
    (bg.1 ≠ 0 → sp.pix = 0 → pixelIndex bg sp = 4 * bg.2 + bg.1) ∧
    (bg.1 = 0 → sp.pix ≠ 0 → pixelIndex bg sp = 16 + 4 * sp.pal + sp.pix) ∧
    (bg.1 ≠ 0 → sp.pix ≠ 0 → pixelIndex bg sp = if sp.behind then 4 * bg.2 + bg.1 else 16 + 4 * sp.pal + sp.pix)) ∧
  (∀ (px : Nat) (before rest : List SpriteSlot) (e : SpriteSlot), (∀ d ∈ before, slotPixel px d = 0) → slotPixel px e ≠ 0 →
    spritePixel px (before ++ e :: rest) =
      { pix := slotPixel px e, pal := e.attr.toNat % 4, behind := e.attr.getLsbD 5, zero := e.isZero }) ∧
  (∀ (px : Nat) (l : List SpriteSlot), (∀ d ∈ l, slotPixel px d = 0) → (spritePixel px l).pix = 0)

/-- The addresses of the fetches, in numbers: the tile of `v`, its attribute byte and the two bits of its quadrant, its pattern row, and
a sprite's pattern row in both sizes, flipped or not; the high plane of either is 8 bytes on (51_ppu.md R393, R414: marked `[from general knowledge, not in source]` in part). -/
def Obligations.FetchAddressesOfTilesAndSprites : Prop :=
  ∀ (p : Ppu) (b : Byte) (line : Nat) (e : SpriteSlot),
    let v := p.v
    (ntFetchAddr v).toNat = 0x2000 + v.toNat % 4096 ∧
    (atFetchAddr v).toNat = 0x23C0 + 0x800 * tableY v + 0x400 * tableX v + 8 * (coarseY v / 4) + coarseX v / 4 ∧
    (atSelect v b).toNat = b.toNat / 4 ^ (2 * (coarseY v / 2 % 2) + coarseX v / 2 % 2) % 4 ∧
    (patFetchAddr p).toNat = (if p.ctrl.getLsbD 4 then 0x1000 else 0) + 16 * p.bgNt.toNat + fineY v ∧
    (patFetchAddr p ||| 0x0008#16).toNat = (patFetchAddr p).toNat + 8 ∧
    let h := if p.ctrl.getLsbD 5 then 16 else 8
    (e.y.toNat ≤ line → line < e.y.toNat + h →
      let row := if e.attr.getLsbD 7 then h - 1 - (line - e.y.toNat) else line - e.y.toNat
      (spriteRowAddr p line e).toNat =
        (if p.ctrl.getLsbD 5 then 0x1000 * (e.tile.toNat % 2) + 16 * (e.tile.toNat / 2 * 2 + row / 8) + row % 8
        else (if p.ctrl.getLsbD 3 then 0x1000 else 0) + 16 * e.tile.toNat + row) ∧
      (spriteRowAddr p line e ||| 0x0008#16).toNat = (spriteRowAddr p line e).toNat + 8)

/-- A dot of a visible line's 256 columns writes its pixel and no other, with the colour of the palette entry the priority rule names,
greyscaled by PPUMASK bit 0; sprite-0 hit is set where both pixels are opaque, the sprite is OAM entry 0, and the column is not 255; no
other dot draws or hits. The candidates are the layers' pixels where PPUMASK enables them, the left eight columns by their own bits, the
background pixel the tap 15 - fine X of the shift registers after the dot's shift and reload, a sprite's pixel the tap of its planes in
its eight columns (51_ppu.md R380, R398, R415, R430 to R434: decisions D32 for R433, R434, D33 for R432, D35 for R433, D36 for R380,
R398). -/
def Obligations.DotsDrawTheirPixel : Prop :=
  (∀ (p : Ppu) (px : Nat) (e : SpriteSlot),
    bgCandidate p px = (if p.mask.getLsbD 3 ∧ (8 ≤ px ∨ p.mask.getLsbD 1) then
      (twoBits p.shPatHi.toNat p.shPatLo.toNat (15 - p.x.toNat), twoBits p.shAtHi.toNat p.shAtLo.toNat (15 - p.x.toNat)) else (0, 0)) ∧
    (spriteCandidate p px =
      if p.mask.getLsbD 4 ∧ (8 ≤ px ∨ p.mask.getLsbD 2) then spritePixel px p.sprCur else { pix := 0, pal := 0, behind := false, zero := false }) ∧
    slotPixel px e = (if e.x.toNat ≤ px ∧ px < e.x.toNat + 8 then twoBits e.patHi.toNat e.patLo.toNat (7 - (px - e.x.toNat)) else 0)) ∧
  ∀ s : State,
    let line := s.ppu.scanline
    let px := s.ppu.dot - 1
    (line ≤ 239 → 1 ≤ s.ppu.dot → s.ppu.dot ≤ 256 →
      let b := if rendering s.ppu then bgStep line s.ppu.dot s else s
      let bg := bgCandidate b.ppu px
      let sp := spriteCandidate s.ppu px
      let c := (Memory.read s.ppu.palette (pixelIndex bg sp)).toNat
      pixel (ppuDot s) line px = Memory.read s.cfg.colours (if s.ppu.mask.getLsbD 0 then c / 16 * 16 else c) ∧
      (∀ row col, col < 256 → ¬(row = line ∧ col = px) → pixel (ppuDot s) row col = pixel s row col) ∧
      (ppuDot s).ppu.spr0hit = (s.ppu.spr0hit || decide (bg.1 ≠ 0 ∧ sp.pix ≠ 0 ∧ sp.zero = true ∧ px ≠ 255)) ∧
      (s.ppu.mask.getLsbD 3 = false → s.ppu.mask.getLsbD 4 = false → pixelIndex bg sp = 0)) ∧
    (¬(line ≤ 239 ∧ 1 ≤ s.ppu.dot ∧ s.ppu.dot ≤ 256) → (ppuDot s).ppu.fb = s.ppu.fb ∧
      (¬(line = 261 ∧ s.ppu.dot = 1) → (ppuDot s).ppu.spr0hit = s.ppu.spr0hit))

/-- The background pipeline. On a render line with rendering enabled, the next PPU dot by dot: the four shift registers, each fetch
latch at the dot of its 8-dot group, and `v` at the dots of the coarse X increment, the Y increment and the two reloads; a dot with
rendering disabled, or on another line, leaves them and `sprCur` inside the line. The increments and reloads are given on the fields of
`v` (51_ppu.md R390 to R397, R399: decisions D32, D36, marked `[from general knowledge, not in source]` in part). -/
def Obligations.ScrollIncrementsAndReloads : Prop :=
  (∀ s : State, rendering s.ppu = false ∨ ¬(s.ppu.scanline ≤ 239 ∨ s.ppu.scanline = 261) →
    let p := (ppuDot s).ppu
    p.v = s.ppu.v ∧ p.shPatLo = s.ppu.shPatLo ∧ p.shPatHi = s.ppu.shPatHi ∧ p.shAtLo = s.ppu.shAtLo ∧ p.shAtHi = s.ppu.shAtHi ∧
      p.bgNt = s.ppu.bgNt ∧ p.bgAt = s.ppu.bgAt ∧ p.bgLo = s.ppu.bgLo ∧ p.bgHi = s.ppu.bgHi ∧
      (s.ppu.dot ≠ 340 → p.sprCur = s.ppu.sprCur ∧ p.sprNext = s.ppu.sprNext)) ∧
  (∀ s : State, rendering s.ppu = true → s.ppu.scanline ≤ 239 ∨ s.ppu.scanline = 261 →
    let p := s.ppu
    let d := p.dot
    let q := (ppuDot s).ppu
    (q.shPatLo.toNat = shifted d p.bgLo.toNat p.shPatLo ∧ q.shPatHi.toNat = shifted d p.bgHi.toNat p.shPatHi ∧
      q.shAtLo.toNat = shifted d (255 * (p.bgAt.toNat % 2)) p.shAtLo ∧ q.shAtHi.toNat = shifted d (255 * (p.bgAt.toNat / 2)) p.shAtHi) ∧
    (fetches d →
      q.bgNt = (if d % 8 = 1 then ppuRead (ntFetchAddr p.v) s else p.bgNt) ∧
      q.bgAt = (if d % 8 = 3 then atSelect p.v (ppuRead (atFetchAddr p.v) s) else p.bgAt) ∧
      q.bgLo = (if d % 8 = 5 then ppuRead (patFetchAddr p) s else p.bgLo) ∧
      q.bgHi = (if d % 8 = 7 then ppuRead (patFetchAddr p ||| 0x0008#16) s else p.bgHi)) ∧
    (¬ fetches d → q.bgNt = p.bgNt ∧ q.bgAt = p.bgAt ∧ q.bgLo = p.bgLo ∧ q.bgHi = p.bgHi) ∧
    (d = 256 → q.v = incY (incX p.v)) ∧
    (fetches d → d ≠ 256 → q.v = if d % 8 = 0 then incX p.v else p.v) ∧
    (d = 257 → q.v = copyX p.t p.v) ∧
    (p.scanline = 261 → 280 ≤ d → d ≤ 304 → q.v = copyY p.t p.v) ∧
    (¬ fetches d → d ≠ 257 → ¬(p.scanline = 261 ∧ 280 ≤ d ∧ d ≤ 304) → q.v = p.v) ∧
    q.t = p.t ∧ q.x = p.x ∧ q.w = p.w) ∧
  ∀ v t : BitVec 15,
    (coarseX (incX v) = (coarseX v + 1) % 32 ∧ tableX (incX v) = (if coarseX v = 31 then 1 - tableX v else tableX v) ∧
      coarseY (incX v) = coarseY v ∧ tableY (incX v) = tableY v ∧ fineY (incX v) = fineY v) ∧
    (fineY (incY v) = (fineY v + 1) % 8 ∧ coarseX (incY v) = coarseX v ∧ tableX (incY v) = tableX v ∧
      coarseY (incY v) = (if fineY v < 7 then coarseY v else if coarseY v = 29 ∨ coarseY v = 31 then 0 else coarseY v + 1) ∧
      tableY (incY v) = (if fineY v = 7 ∧ coarseY v = 29 then 1 - tableY v else tableY v)) ∧
    (coarseX (copyX t v) = coarseX t ∧ tableX (copyX t v) = tableX t ∧
      coarseY (copyX t v) = coarseY v ∧ tableY (copyX t v) = tableY v ∧ fineY (copyX t v) = fineY v) ∧
    (coarseY (copyY t v) = coarseY t ∧ tableY (copyY t v) = tableY t ∧ fineY (copyY t v) = fineY t ∧
      coarseX (copyY t v) = coarseX v ∧ tableX (copyY t v) = tableX v)

/-! Reset and loading -/

/-- Reset: the values of every register, the memories a later reset keeps and the ones power-up installs, `PC` from $FFFC
(70_reset_and_hazards.md R560, R561, 10_state.md R65 to R68: decisions D7, D8, D22, D23, D30). That a later reset keeps the host's buttons
and script, the clause `t.host = s.host`, is the model's choice (log 6). And the host's other operations: each changes one thing, they act
in the order of the script, and all of them before the step's tick (50_bus_devices.md R330, R345, 60_exceptions.md R521: decisions D9, D34;
the script itself is the model's, log 6, log 7). -/
def Obligations.ResetValues : Prop :=
  (∀ s : State, let t := warmReset s
    (t.a = 0x00#8 ∧ t.x = 0x00#8 ∧ t.y = 0x00#8 ∧ t.s = 0xFD#8 ∧ t.p = 0x24#8 ∧ t.cycles = 0#64 ∧ t.idle = 0 ∧
      t.irqPending = false ∧ t.nmiPending = false ∧ t.pc = wordOf (peek 0xFFFD#16 t) (peek 0xFFFC#16 t)) ∧
    (t.ram = s.ram ∧ t.wram = s.wram ∧ t.chrRam = s.chrRam ∧ t.cfg = s.cfg ∧ t.host = s.host) ∧
    (t.dma.active = false ∧ t.pad = { strobe := false, snapshot := 0x00#8, cursor := 0 } ∧ t.apu = []) ∧
    (t.ppu.scanline = 261 ∧ t.ppu.dot = 0 ∧ t.ppu.ctrl = 0x00#8 ∧ t.ppu.mask = 0x00#8 ∧ t.ppu.oamaddr = 0x00#8 ∧
      t.ppu.readbuf = 0x00#8 ∧ t.ppu.vblank = false ∧ t.ppu.spr0hit = false ∧ t.ppu.overflow = false ∧ t.ppu.frameDone = false ∧
      t.ppu.v = 0#15 ∧ t.ppu.t = 0#15 ∧ t.ppu.x = 0#3 ∧ t.ppu.w = false ∧ t.ppu.sprCur = [] ∧ t.ppu.sprNext = [] ∧
      t.ppu.bgNt = 0x00#8 ∧ t.ppu.bgAt = 0#2 ∧ t.ppu.bgLo = 0x00#8 ∧ t.ppu.bgHi = 0x00#8 ∧ t.ppu.shPatLo = 0#16 ∧
      t.ppu.shPatHi = 0#16 ∧ t.ppu.shAtLo = 0#16 ∧ t.ppu.shAtHi = 0#16 ∧
      t.ppu.oam = [] ∧ t.ppu.palette = [] ∧ t.ppu.nt = [] ∧ t.ppu.ntExt = [] ∧
      ∀ row col, row < 240 → col < 256 → pixel t row col = Memory.read s.cfg.colours 0) ∧
    (t.mirroring = s.cfg.cart.mirroring ∧ t.mapper = match s.cfg.cart.mapper with
      | .nrom => .nrom
      | .sxrom => .sxrom { shift := 0, count := 0, control := 0x0C#5, chr0 := 0, chr1 := 0, prg := 0 }
      | .txrom => .txrom { select := 0, r := [], irqLatch := 0, irqReload := false, irqEnable := false, ramProtect := 0 })) ∧
  (∀ l : Launch, (powerUp l).ram = l.ramInit ∧ (powerUp l).wram = l.wramInit ∧ (powerUp l).chrRam = [] ∧ (powerUp l).cfg = l.cfg ∧
    ∃ s, powerUp l = warmReset s) ∧
  (∀ (s : State) (b : Byte),
    hostOp .reset s = warmReset s ∧ hostOp .pullIrq s = { s with irqPending := true } ∧ hostOp .pullNmi s = { s with nmiPending := true } ∧
    hostOp (.setButtons b) s = { s with host := { s.host with buttons := b } } ∧
    hostOp .grabFrameDone s = { s with ppu := { s.ppu with frameDone := false } }) ∧
  (∀ (s : State) (o : HostOp) (ops : List HostOp) (rest : List (List HostOp)),
    (s.host.script = [] → hostTurn s = s) ∧
    (s.host.script = [] :: rest → hostTurn s = { s with host := { s.host with script := rest } }) ∧
    (s.host.script = (o :: ops) :: rest →
      hostTurn s = hostTurn { hostOp o s with host := { (hostOp o s).host with script := ops :: rest } })) ∧
  (∀ s t : State, cpuSlot (hostTurn s) = .next t → step s = .next (finishTick t))

/-- `load` succeeds exactly on a file with the magic, byte 9 zero, mapper 0, 1 or 4, at least one PRG bank, and as many bytes as the
header says; then the machine is the power-up of the header's cartridge with the file's bytes, PRG after the header and the trainer and
CHR after PRG; otherwise it refuses (52_mappers.md R451, R455: decision D29; the order of the reasons is the model's, log 12). -/
def Obligations.LoadRefusesExactlyTheBadFiles : Prop :=
  ∀ (file : List Byte) (ramInit wramInit : Memory 8) (colours : Memory 24),
    let h := fun n => fileByte file n
    let number := (h 7).toNat / 16 * 16 + (h 6).toNat / 16
    let size := 16 + (if (h 6).getLsbD 2 then 512 else 0) + 16384 * (h 4).toNat + 8192 * (h 5).toNat
    ((∃ t, loadFile file ramInit wramInit colours = .next t) ↔
      file.take 4 = [0x4E#8, 0x45#8, 0x53#8, 0x1A#8] ∧ h 9 = 0x00#8 ∧ (number = 0 ∨ number = 1 ∨ number = 4) ∧ h 4 ≠ 0x00#8 ∧
        size ≤ file.length) ∧
    (∀ t, loadFile file ramInit wramInit colours = .next t →
      ∃ c : Cart, t = powerUp { cfg := { cart := c, colours := colours }, ramInit := ramInit, wramInit := wramInit } ∧ c.wf ∧
        c.prgBanks = (h 4).toNat ∧ c.chrBanks = (h 5).toNat ∧ c.battery = (h 6).getLsbD 1 ∧ c.trainer = (h 6).getLsbD 2 ∧
        c.mirroring = (if (h 6).getLsbD 3 then .fourScreen else if (h 6).getLsbD 0 then .vertical else .horizontal) ∧
        c.prgRamUnits = (if h 8 = 0x00#8 then 1 else (h 8).toNat) ∧
        (number = 0 → c.mapper = .nrom) ∧ (number = 1 → c.mapper = .sxrom) ∧ (number = 4 → c.mapper = .txrom) ∧
        (∀ o, o < 16384 * (h 4).toNat → Memory.read c.prg o = h (16 + (if (h 6).getLsbD 2 then 512 else 0) + o)) ∧
        (∀ o, o < 8192 * (h 5).toNat →
          Memory.read c.chr o = h (16 + (if (h 6).getLsbD 2 then 512 else 0) + 16384 * (h 4).toNat + o))) ∧
    (∀ r, loadFile file ramInit wramInit colours = .refused r →
      r = .badMagic ∨ r = .headerByte9 ∨ r = .unknownMapper number ∨ r = .noPrgBanks ∨ r = .shortFile)
end

