-- ==== Sys2Proof/Laws/Memory.lean ====
section
/-! SUPPORT. The laws of the sparse stores: reading after a write, and that every operation keeps the canonical form. -/

namespace Sys2Proof

variable {w : Nat}

@[simp] theorem Memory.read_nil (a : Nat) : Memory.read ([] : Memory w) a = 0#w := rfl

theorem Memory.read_drop (m : Memory w) (a b : Nat) :
    Memory.read (Memory.drop m a) b = if b = a then 0#w else Memory.read m b := by
  induction m with
  | nil => simp [Memory.drop]
  | cons c m ih =>
    obtain ⟨k, u⟩ := c
    simp only [Memory.drop, Memory.read]
    split
    · subst k
      rw [ih]
      split <;> simp_all
    · simp only [Memory.read, ih]
      split <;> simp_all

theorem Memory.read_place (m : Memory w) (a b : Nat) (v : BitVec w) (h : Memory.read m a = 0#w → ∀ c ∈ m, c.1 ≠ a) (ha : Memory.read m a = 0#w) :
    Memory.read (Memory.place m a v) b = if b = a then v else Memory.read m b := by
  replace h := h ha
  induction m with
  | nil => simp [Memory.place, Memory.read]
  | cons c m ih =>
    obtain ⟨k, u⟩ := c
    have hk : k ≠ a := h (k, u) (by simp)
    simp only [Memory.place, Memory.read]
    split
    · simp [Memory.read]
    · have hm : ∀ c ∈ m, c.1 ≠ a := fun c hc => h c (by simp [hc])
      have ham : Memory.read m a = 0#w := by simpa [Memory.read, Ne.symm hk] using ha
      simp only [Memory.read, ih ham hm]
      split <;> simp_all

theorem Memory.drop_avoids (m : Memory w) (a : Nat) : ∀ c ∈ Memory.drop m a, c.1 ≠ a := by
  induction m with
  | nil => simp [Memory.drop]
  | cons c m ih =>
    simp only [Memory.drop]
    split
    · exact ih
    · intro d hd
      rcases List.mem_cons.1 hd with rfl | hd
      · assumption
      · exact ih d hd

/-- Everything a write does to what is read. -/
theorem Memory.read_write (m : Memory w) (a b : Nat) (v : BitVec w) :
    Memory.read (Memory.write m a v) b = if b = a then v else Memory.read m b := by
  unfold Memory.write
  split
  · rw [Memory.read_drop]
    simp_all
  · rw [Memory.read_place _ _ _ _ (fun _ => Memory.drop_avoids m a) (by simp [Memory.read_drop])]
    simp only [Memory.read_drop]
    split <;> rfl

@[simp] theorem Memory.read_write_same (m : Memory w) (a : Nat) (v : BitVec w) : Memory.read (Memory.write m a v) a = v := by
  simp [Memory.read_write]

theorem Memory.read_write_other (m : Memory w) {a b : Nat} (v : BitVec w) (h : b ≠ a) :
    Memory.read (Memory.write m a v) b = Memory.read m b := by
  simp [Memory.read_write, h]

/-! The canonical form -/

theorem Memory.wf_nil (n : Nat) : Memory.wf n ([] : Memory w) := by simp [Memory.wf]

theorem Memory.mem_drop {m : Memory w} {a : Nat} {c : Nat × BitVec w} (h : c ∈ Memory.drop m a) : c ∈ m := by
  induction m with
  | nil => simp [Memory.drop] at h
  | cons d m ih =>
    simp only [Memory.drop] at h
    split at h
    · exact List.mem_cons_of_mem _ (ih h)
    · rcases List.mem_cons.1 h with rfl | h
      · simp
      · exact List.mem_cons_of_mem _ (ih h)

theorem Memory.drop_sublist (m : Memory w) (a : Nat) : (Memory.drop m a).Sublist m := by
  induction m with
  | nil => simp [Memory.drop]
  | cons c m ih =>
    simp only [Memory.drop]
    split
    · exact ih.cons _
    · exact ih.cons_cons _

theorem Memory.wf_drop {n : Nat} {m : Memory w} (h : Memory.wf n m) (a : Nat) : Memory.wf n (Memory.drop m a) :=
  ⟨h.1.sublist (Memory.drop_sublist m a), fun c hc => h.2 c (Memory.mem_drop hc)⟩

theorem Memory.mem_place {m : Memory w} {a : Nat} {v : BitVec w} {c : Nat × BitVec w} (h : c ∈ Memory.place m a v) :
    c = (a, v) ∨ c ∈ m := by
  induction m with
  | nil => simpa [Memory.place] using h
  | cons d m ih =>
    simp only [Memory.place] at h
    split at h
    · simpa using h
    · rcases List.mem_cons.1 h with rfl | h
      · simp
      · rcases ih h with h | h
        · exact .inl h
        · exact .inr (List.mem_cons_of_mem _ h)

theorem Memory.sorted_place {m : Memory w} (h : m.Pairwise (fun c d => c.1 < d.1)) (a : Nat) (v : BitVec w) (ha : ∀ c ∈ m, c.1 ≠ a) :
    (Memory.place m a v).Pairwise (fun c d => c.1 < d.1) := by
  induction m with
  | nil => simp [Memory.place]
  | cons d m ih =>
    rw [List.pairwise_cons] at h
    have hd : d.1 ≠ a := ha d (by simp)
    simp only [Memory.place]
    split
    · rename_i hlt
      refine List.pairwise_cons.2 ⟨?_, List.pairwise_cons.2 h⟩
      intro c hc
      rcases List.mem_cons.1 hc with rfl | hc
      · exact hlt
      · exact Nat.lt_trans hlt (h.1 c hc)
    · rename_i hlt
      refine List.pairwise_cons.2 ⟨?_, ih h.2 fun c hc => ha c (by simp [hc])⟩
      intro c hc
      rcases Memory.mem_place hc with rfl | hc
      · show d.1 < a
        omega
      · exact h.1 c hc

/-- A write inside the store keeps the canonical form. -/
theorem Memory.wf_write {n : Nat} {m : Memory w} (h : Memory.wf n m) {a : Nat} (ha : a < n) (v : BitVec w) :
    Memory.wf n (Memory.write m a v) := by
  unfold Memory.write
  split
  · exact Memory.wf_drop h a
  · rename_i hv
    have hd := Memory.wf_drop h a
    refine ⟨Memory.sorted_place hd.1 a v (Memory.drop_avoids m a), fun c hc => ?_⟩
    rcases Memory.mem_place hc with rfl | hc
    · exact ⟨ha, hv⟩
    · exact hd.2 c hc

theorem Memory.wf_fill (n : Nat) (v : BitVec w) : Memory.wf n (Memory.fill n v) := by
  unfold Memory.fill
  split
  · exact Memory.wf_nil n
  · rename_i hv
    refine ⟨?_, ?_⟩
    · rw [List.pairwise_map]
      exact List.pairwise_lt_range
    · intro c hc
      obtain ⟨a, ha, rfl⟩ := List.mem_map.1 hc
      exact ⟨List.mem_range.1 ha, hv⟩

theorem Memory.read_fill {n a : Nat} (v : BitVec w) (ha : a < n) : Memory.read (Memory.fill n v) a = v := by
  unfold Memory.fill
  split
  · simp_all
  · have key : ∀ (l : List Nat), a ∈ l → Memory.read (l.map fun a => (a, v)) a = v := by
      intro l
      induction l with
      | nil => simp
      | cons k l ih =>
        intro h
        simp only [List.map_cons, Memory.read]
        split
        · rfl
        · exact ih (by simp_all)
    exact key _ (List.mem_range.2 ha)

theorem Memory.ofList_bounds (vs : List (BitVec w)) (a : Nat) :
    (Memory.ofList a vs).Pairwise (fun c d => c.1 < d.1) ∧
      ∀ c ∈ Memory.ofList a vs, a ≤ c.1 ∧ c.1 < a + vs.length ∧ c.2 ≠ 0#w := by
  induction vs generalizing a with
  | nil => simp [Memory.ofList]
  | cons v vs ih =>
    obtain ⟨h1, h2⟩ := ih (a + 1)
    simp only [Memory.ofList]
    split
    · refine ⟨h1, fun c hc => ?_⟩
      obtain ⟨ha, hb, hv⟩ := h2 c hc
      simp only [List.length_cons]
      exact ⟨by omega, by omega, hv⟩
    · rename_i hv
      refine ⟨List.pairwise_cons.2 ⟨fun c hc => ?_, h1⟩, fun c hc => ?_⟩
      · have := h2 c hc
        show a < c.1
        omega
      · simp only [List.length_cons]
        rcases List.mem_cons.1 hc with rfl | hc
        · exact ⟨le_refl _, by simp, hv⟩
        · obtain ⟨ha, hb, hv'⟩ := h2 c hc
          exact ⟨by omega, by omega, hv'⟩

theorem Memory.wf_ofList {n : Nat} (vs : List (BitVec w)) (h : vs.length ≤ n) : Memory.wf n (Memory.ofList 0 vs) := by
  obtain ⟨h1, h2⟩ := Memory.ofList_bounds vs 0
  refine ⟨h1, fun c hc => ?_⟩
  have := h2 c hc
  exact ⟨by omega, this.2.2⟩

theorem Memory.read_below {m : Memory w} {a : Nat} (h : ∀ c ∈ m, a < c.1) : Memory.read m a = 0#w := by
  induction m with
  | nil => rfl
  | cons c m ih =>
    have hc := h c (by simp)
    simp only [Memory.read]
    rw [if_neg (by omega)]
    exact ih fun d hd => h d (by simp [hd])

/-- Equal memories are equal data: two canonical stores that read alike are the same list. -/
theorem Memory.ext_read {n n' : Nat} {m m' : Memory w} (h : Memory.wf n m) (h' : Memory.wf n' m')
    (hr : ∀ a, Memory.read m a = Memory.read m' a) : m = m' := by
  induction m generalizing m' with
  | nil =>
    cases m' with
    | nil => rfl
    | cons c m' =>
      have := hr c.1
      simp only [Memory.read, if_true] at this
      exact absurd this.symm (h'.2 c (by simp)).2
  | cons c m ih =>
    cases m' with
    | nil =>
      have := hr c.1
      simp only [Memory.read, if_true] at this
      exact absurd this (h.2 c (by simp)).2
    | cons c' m' =>
      obtain ⟨hs, hm⟩ := h
      obtain ⟨hs', hm'⟩ := h'
      rw [List.pairwise_cons] at hs hs'
      have hk : c.1 = c'.1 := by
        by_contra hne
        rcases Nat.lt_or_gt_of_ne hne with hlt | hlt
        · have := hr c.1
          rw [Memory.read_below (m := c' :: m') (a := c.1)] at this
          · simp only [Memory.read, if_true] at this
            exact (hm c (by simp)).2 this
          · intro d hd
            rcases List.mem_cons.1 hd with rfl | hd
            · exact hlt
            · exact Nat.lt_trans hlt (hs'.1 d hd)
        · have := hr c'.1
          rw [Memory.read_below (m := c :: m) (a := c'.1)] at this
          · simp only [Memory.read, if_true] at this
            exact (hm' c' (by simp)).2 this.symm
          · intro d hd
            rcases List.mem_cons.1 hd with rfl | hd
            · exact hlt
            · exact Nat.lt_trans hlt (hs.1 d hd)
      have hv : c.2 = c'.2 := by
        have := hr c.1
        simpa [Memory.read, hk] using this
      have hc : c = c' := Prod.ext hk hv
      subst hc
      rw [ih ⟨hs.2, fun d hd => hm d (by simp [hd])⟩ ⟨hs'.2, fun d hd => hm' d (by simp [hd])⟩]
      intro a
      by_cases ha : a = c.1
      · subst ha
        rw [Memory.read_below hs.1, Memory.read_below hs'.1]
      · simpa [Memory.read, ha] using hr a

end Sys2Proof
end

