-- ==== Sys2Proof/Laws/State.lean ====
section
/-! SUPPORT. One lemma for each field of each update of the state (`setFlag`, `setZN`, `retire`, `setPpu`), so that no proof unfolds one. -/

namespace Sys2Proof.Machine

@[simp] theorem setFlag_a (f : Byte) (b : Bool) (s : State) : (setFlag f b s).a = s.a := rfl
@[simp] theorem setFlag_x (f : Byte) (b : Bool) (s : State) : (setFlag f b s).x = s.x := rfl
@[simp] theorem setFlag_y (f : Byte) (b : Bool) (s : State) : (setFlag f b s).y = s.y := rfl
@[simp] theorem setFlag_s (f : Byte) (b : Bool) (s : State) : (setFlag f b s).s = s.s := rfl
@[simp] theorem setFlag_pc (f : Byte) (b : Bool) (s : State) : (setFlag f b s).pc = s.pc := rfl
@[simp] theorem setFlag_p (f : Byte) (b : Bool) (s : State) : (setFlag f b s).p = putFlag f b s.p := rfl
@[simp] theorem setFlag_cycles (f : Byte) (b : Bool) (s : State) : (setFlag f b s).cycles = s.cycles := rfl
@[simp] theorem setFlag_idle (f : Byte) (b : Bool) (s : State) : (setFlag f b s).idle = s.idle := rfl
@[simp] theorem setFlag_irqPending (f : Byte) (b : Bool) (s : State) : (setFlag f b s).irqPending = s.irqPending := rfl
@[simp] theorem setFlag_nmiPending (f : Byte) (b : Bool) (s : State) : (setFlag f b s).nmiPending = s.nmiPending := rfl
@[simp] theorem setFlag_cur (f : Byte) (b : Bool) (s : State) : (setFlag f b s).cur = s.cur := rfl
@[simp] theorem setFlag_ram (f : Byte) (b : Bool) (s : State) : (setFlag f b s).ram = s.ram := rfl
@[simp] theorem setFlag_dma (f : Byte) (b : Bool) (s : State) : (setFlag f b s).dma = s.dma := rfl
@[simp] theorem setFlag_pad (f : Byte) (b : Bool) (s : State) : (setFlag f b s).pad = s.pad := rfl
@[simp] theorem setFlag_apu (f : Byte) (b : Bool) (s : State) : (setFlag f b s).apu = s.apu := rfl
@[simp] theorem setFlag_ppu (f : Byte) (b : Bool) (s : State) : (setFlag f b s).ppu = s.ppu := rfl
@[simp] theorem setFlag_wram (f : Byte) (b : Bool) (s : State) : (setFlag f b s).wram = s.wram := rfl
@[simp] theorem setFlag_chrRam (f : Byte) (b : Bool) (s : State) : (setFlag f b s).chrRam = s.chrRam := rfl
@[simp] theorem setFlag_mirroring (f : Byte) (b : Bool) (s : State) : (setFlag f b s).mirroring = s.mirroring := rfl
@[simp] theorem setFlag_mapper (f : Byte) (b : Bool) (s : State) : (setFlag f b s).mapper = s.mapper := rfl
@[simp] theorem setFlag_cfg (f : Byte) (b : Bool) (s : State) : (setFlag f b s).cfg = s.cfg := rfl
@[simp] theorem setFlag_host (f : Byte) (b : Bool) (s : State) : (setFlag f b s).host = s.host := rfl

@[simp] theorem setZN_a (v : Byte) (s : State) : (setZN v s).a = s.a := rfl
@[simp] theorem setZN_x (v : Byte) (s : State) : (setZN v s).x = s.x := rfl
@[simp] theorem setZN_y (v : Byte) (s : State) : (setZN v s).y = s.y := rfl
@[simp] theorem setZN_s (v : Byte) (s : State) : (setZN v s).s = s.s := rfl
@[simp] theorem setZN_pc (v : Byte) (s : State) : (setZN v s).pc = s.pc := rfl
@[simp] theorem setZN_p (v : Byte) (s : State) : (setZN v s).p = putFlag flagN (v.getLsbD 7) (putFlag flagZ (v == 0#8) s.p) := rfl
@[simp] theorem setZN_cycles (v : Byte) (s : State) : (setZN v s).cycles = s.cycles := rfl
@[simp] theorem setZN_idle (v : Byte) (s : State) : (setZN v s).idle = s.idle := rfl
@[simp] theorem setZN_irqPending (v : Byte) (s : State) : (setZN v s).irqPending = s.irqPending := rfl
@[simp] theorem setZN_nmiPending (v : Byte) (s : State) : (setZN v s).nmiPending = s.nmiPending := rfl
@[simp] theorem setZN_cur (v : Byte) (s : State) : (setZN v s).cur = s.cur := rfl
@[simp] theorem setZN_ram (v : Byte) (s : State) : (setZN v s).ram = s.ram := rfl
@[simp] theorem setZN_dma (v : Byte) (s : State) : (setZN v s).dma = s.dma := rfl
@[simp] theorem setZN_pad (v : Byte) (s : State) : (setZN v s).pad = s.pad := rfl
@[simp] theorem setZN_apu (v : Byte) (s : State) : (setZN v s).apu = s.apu := rfl
@[simp] theorem setZN_ppu (v : Byte) (s : State) : (setZN v s).ppu = s.ppu := rfl
@[simp] theorem setZN_wram (v : Byte) (s : State) : (setZN v s).wram = s.wram := rfl
@[simp] theorem setZN_chrRam (v : Byte) (s : State) : (setZN v s).chrRam = s.chrRam := rfl
@[simp] theorem setZN_mirroring (v : Byte) (s : State) : (setZN v s).mirroring = s.mirroring := rfl
@[simp] theorem setZN_mapper (v : Byte) (s : State) : (setZN v s).mapper = s.mapper := rfl
@[simp] theorem setZN_cfg (v : Byte) (s : State) : (setZN v s).cfg = s.cfg := rfl
@[simp] theorem setZN_host (v : Byte) (s : State) : (setZN v s).host = s.host := rfl

@[simp] theorem retire_a (n : Nat) (s : State) : (retire n s).a = s.a := rfl
@[simp] theorem retire_x (n : Nat) (s : State) : (retire n s).x = s.x := rfl
@[simp] theorem retire_y (n : Nat) (s : State) : (retire n s).y = s.y := rfl
@[simp] theorem retire_s (n : Nat) (s : State) : (retire n s).s = s.s := rfl
@[simp] theorem retire_pc (n : Nat) (s : State) : (retire n s).pc = s.pc := rfl
@[simp] theorem retire_p (n : Nat) (s : State) : (retire n s).p = s.p := rfl
@[simp] theorem retire_cycles (n : Nat) (s : State) : (retire n s).cycles = s.cycles := rfl
@[simp] theorem retire_idle (n : Nat) (s : State) : (retire n s).idle = n - 1 := rfl
@[simp] theorem retire_irqPending (n : Nat) (s : State) : (retire n s).irqPending = s.irqPending := rfl
@[simp] theorem retire_nmiPending (n : Nat) (s : State) : (retire n s).nmiPending = s.nmiPending := rfl
@[simp] theorem retire_cur (n : Nat) (s : State) : (retire n s).cur = s.cur := rfl
@[simp] theorem retire_ram (n : Nat) (s : State) : (retire n s).ram = s.ram := rfl
@[simp] theorem retire_dma (n : Nat) (s : State) : (retire n s).dma = s.dma := rfl
@[simp] theorem retire_pad (n : Nat) (s : State) : (retire n s).pad = s.pad := rfl
@[simp] theorem retire_apu (n : Nat) (s : State) : (retire n s).apu = s.apu := rfl
@[simp] theorem retire_ppu (n : Nat) (s : State) : (retire n s).ppu = s.ppu := rfl
@[simp] theorem retire_wram (n : Nat) (s : State) : (retire n s).wram = s.wram := rfl
@[simp] theorem retire_chrRam (n : Nat) (s : State) : (retire n s).chrRam = s.chrRam := rfl
@[simp] theorem retire_mirroring (n : Nat) (s : State) : (retire n s).mirroring = s.mirroring := rfl
@[simp] theorem retire_mapper (n : Nat) (s : State) : (retire n s).mapper = s.mapper := rfl
@[simp] theorem retire_cfg (n : Nat) (s : State) : (retire n s).cfg = s.cfg := rfl
@[simp] theorem retire_host (n : Nat) (s : State) : (retire n s).host = s.host := rfl

@[simp] theorem setPpu_a (p : Ppu) (s : State) : (setPpu p s).a = s.a := rfl
@[simp] theorem setPpu_x (p : Ppu) (s : State) : (setPpu p s).x = s.x := rfl
@[simp] theorem setPpu_y (p : Ppu) (s : State) : (setPpu p s).y = s.y := rfl
@[simp] theorem setPpu_s (p : Ppu) (s : State) : (setPpu p s).s = s.s := rfl
@[simp] theorem setPpu_pc (p : Ppu) (s : State) : (setPpu p s).pc = s.pc := rfl
@[simp] theorem setPpu_p (p : Ppu) (s : State) : (setPpu p s).p = s.p := rfl
@[simp] theorem setPpu_cycles (p : Ppu) (s : State) : (setPpu p s).cycles = s.cycles := rfl
@[simp] theorem setPpu_idle (p : Ppu) (s : State) : (setPpu p s).idle = s.idle := rfl
@[simp] theorem setPpu_irqPending (p : Ppu) (s : State) : (setPpu p s).irqPending = s.irqPending := rfl
@[simp] theorem setPpu_nmiPending (p : Ppu) (s : State) : (setPpu p s).nmiPending = s.nmiPending := rfl
@[simp] theorem setPpu_cur (p : Ppu) (s : State) : (setPpu p s).cur = s.cur := rfl
@[simp] theorem setPpu_ram (p : Ppu) (s : State) : (setPpu p s).ram = s.ram := rfl
@[simp] theorem setPpu_dma (p : Ppu) (s : State) : (setPpu p s).dma = s.dma := rfl
@[simp] theorem setPpu_pad (p : Ppu) (s : State) : (setPpu p s).pad = s.pad := rfl
@[simp] theorem setPpu_apu (p : Ppu) (s : State) : (setPpu p s).apu = s.apu := rfl
@[simp] theorem setPpu_ppu (p : Ppu) (s : State) : (setPpu p s).ppu = p := rfl
@[simp] theorem setPpu_wram (p : Ppu) (s : State) : (setPpu p s).wram = s.wram := rfl
@[simp] theorem setPpu_chrRam (p : Ppu) (s : State) : (setPpu p s).chrRam = s.chrRam := rfl
@[simp] theorem setPpu_mirroring (p : Ppu) (s : State) : (setPpu p s).mirroring = s.mirroring := rfl
@[simp] theorem setPpu_mapper (p : Ppu) (s : State) : (setPpu p s).mapper = s.mapper := rfl
@[simp] theorem setPpu_cfg (p : Ppu) (s : State) : (setPpu p s).cfg = s.cfg := rfl
@[simp] theorem setPpu_host (p : Ppu) (s : State) : (setPpu p s).host = s.host := rfl

end Sys2Proof.Machine
end

