-- ==== Sys2Proof/Laws/Bus.lean ====
section
/-! SUPPORT. Everything an access of the CPU bus can do: what a read gives and changes, what a write changes. -/

namespace Sys2Proof.Machine

/-! The PPU bus -/

/-- A write on the PPU bus touches CHR RAM and the PPU alone. -/
theorem ppuWrite_state (a : Addr) (v : Byte) (s : State) :
    ppuWrite a v s = { s with chrRam := (ppuWrite a v s).chrRam, ppu := (ppuWrite a v s).ppu } := by
  simp only [ppuWrite, mapperPpuWrite, ntWrite]
  (repeat' split) <;> rfl

theorem vramInc_state (s : State) : vramInc s = { s with ppu := (vramInc s).ppu } := rfl

/-- A write of a PPU register touches CHR RAM and the PPU alone. -/
theorem ppuRegWrite_state (i : Nat) (d : Byte) (s : State) :
    ppuRegWrite i d s = { s with chrRam := (ppuRegWrite i d s).chrRam, ppu := (ppuRegWrite i d s).ppu } := by
  unfold ppuRegWrite
  split
  all_goals first
    | rfl
    | (simp only [scrollWrite, addrWrite]; (repeat' split) <;> rfl)
    | skip
  simp only [dataWrite, vramInc]
  rw [ppuWrite_state]

/-- A read of a PPU register touches the PPU alone. -/
theorem ppuRegRead_state (i : Nat) (s : State) : (ppuRegRead i s).2 = { s with ppu := (ppuRegRead i s).2.ppu } := by
  unfold ppuRegRead
  split
  · rfl
  · rfl
  · unfold dataRead
    simp only
    split <;> rfl
  · rfl

theorem padRead_state (s : State) : (padRead s).2 = { s with pad := (padRead s).2.pad } := by
  unfold padRead
  (repeat' split) <;> rfl

theorem padWrite_state (v : Byte) (s : State) : padWrite v s = { s with pad := (padWrite v s).pad } := by
  unfold padWrite
  split <;> rfl

/-! The cartridge -/

theorem setMirroring_state (m : Mirroring) (s : State) : setMirroring m s = { s with mirroring := (setMirroring m s).mirroring } := by
  unfold setMirroring
  split <;> rfl

/-- A write of the cartridge touches WRAM, the mapper's registers and the mirroring mode alone. -/
theorem mapperCpuWrite_state (a : Addr) (v : Byte) (s : State) :
    mapperCpuWrite a v s = { s with
      wram := (mapperCpuWrite a v s).wram, mapper := (mapperCpuWrite a v s).mapper,
      mirroring := (mapperCpuWrite a v s).mirroring } := by
  simp only [mapperCpuWrite, sxWrite, sxLatch, txWrite, setMirroring]
  (repeat' split) <;> rfl

/-! The CPU bus -/

/-- A read touches the PPU and the controller alone. -/
theorem memRead_state (a : Addr) (s : State) :
    (memRead a s).2 = { s with ppu := (memRead a s).2.ppu, pad := (memRead a s).2.pad } := by
  unfold memRead
  (repeat' split)
  all_goals first
    | rfl
    | (rw [ppuRegRead_state])
    | (rw [padRead_state])

/-- A write touches the memories, the devices and the mapper alone. -/
theorem memWrite_state (a : Addr) (v : Byte) (s : State) :
    memWrite a v s = { s with
      ram := (memWrite a v s).ram, dma := (memWrite a v s).dma, pad := (memWrite a v s).pad, apu := (memWrite a v s).apu,
      ppu := (memWrite a v s).ppu, wram := (memWrite a v s).wram, chrRam := (memWrite a v s).chrRam,
      mirroring := (memWrite a v s).mirroring, mapper := (memWrite a v s).mapper } := by
  unfold memWrite
  (repeat' split)
  all_goals first
    | rfl
    | (rw [ppuRegWrite_state])
    | (rw [padWrite_state])
    | (rw [mapperCpuWrite_state])

@[simp] theorem memRead_a (a : Addr) (s : State) : (memRead a s).2.a = s.a := by rw [memRead_state]
@[simp] theorem memRead_x (a : Addr) (s : State) : (memRead a s).2.x = s.x := by rw [memRead_state]
@[simp] theorem memRead_y (a : Addr) (s : State) : (memRead a s).2.y = s.y := by rw [memRead_state]
@[simp] theorem memRead_s (a : Addr) (s : State) : (memRead a s).2.s = s.s := by rw [memRead_state]
@[simp] theorem memRead_pc (a : Addr) (s : State) : (memRead a s).2.pc = s.pc := by rw [memRead_state]
@[simp] theorem memRead_p (a : Addr) (s : State) : (memRead a s).2.p = s.p := by rw [memRead_state]
@[simp] theorem memRead_cycles (a : Addr) (s : State) : (memRead a s).2.cycles = s.cycles := by rw [memRead_state]
@[simp] theorem memRead_idle (a : Addr) (s : State) : (memRead a s).2.idle = s.idle := by rw [memRead_state]
@[simp] theorem memRead_irqPending (a : Addr) (s : State) : (memRead a s).2.irqPending = s.irqPending := by rw [memRead_state]
@[simp] theorem memRead_nmiPending (a : Addr) (s : State) : (memRead a s).2.nmiPending = s.nmiPending := by rw [memRead_state]
@[simp] theorem memRead_cur (a : Addr) (s : State) : (memRead a s).2.cur = s.cur := by rw [memRead_state]
@[simp] theorem memRead_ram (a : Addr) (s : State) : (memRead a s).2.ram = s.ram := by rw [memRead_state]
@[simp] theorem memRead_dma (a : Addr) (s : State) : (memRead a s).2.dma = s.dma := by rw [memRead_state]
@[simp] theorem memRead_apu (a : Addr) (s : State) : (memRead a s).2.apu = s.apu := by rw [memRead_state]
@[simp] theorem memRead_wram (a : Addr) (s : State) : (memRead a s).2.wram = s.wram := by rw [memRead_state]
@[simp] theorem memRead_chrRam (a : Addr) (s : State) : (memRead a s).2.chrRam = s.chrRam := by rw [memRead_state]
@[simp] theorem memRead_mirroring (a : Addr) (s : State) : (memRead a s).2.mirroring = s.mirroring := by rw [memRead_state]
@[simp] theorem memRead_mapper (a : Addr) (s : State) : (memRead a s).2.mapper = s.mapper := by rw [memRead_state]
@[simp] theorem memRead_cfg (a : Addr) (s : State) : (memRead a s).2.cfg = s.cfg := by rw [memRead_state]
@[simp] theorem memRead_host (a : Addr) (s : State) : (memRead a s).2.host = s.host := by rw [memRead_state]

@[simp] theorem memWrite_a (a : Addr) (v : Byte) (s : State) : (memWrite a v s).a = s.a := by rw [memWrite_state]
@[simp] theorem memWrite_x (a : Addr) (v : Byte) (s : State) : (memWrite a v s).x = s.x := by rw [memWrite_state]
@[simp] theorem memWrite_y (a : Addr) (v : Byte) (s : State) : (memWrite a v s).y = s.y := by rw [memWrite_state]
@[simp] theorem memWrite_s (a : Addr) (v : Byte) (s : State) : (memWrite a v s).s = s.s := by rw [memWrite_state]
@[simp] theorem memWrite_pc (a : Addr) (v : Byte) (s : State) : (memWrite a v s).pc = s.pc := by rw [memWrite_state]
@[simp] theorem memWrite_p (a : Addr) (v : Byte) (s : State) : (memWrite a v s).p = s.p := by rw [memWrite_state]
@[simp] theorem memWrite_cycles (a : Addr) (v : Byte) (s : State) : (memWrite a v s).cycles = s.cycles := by rw [memWrite_state]
@[simp] theorem memWrite_idle (a : Addr) (v : Byte) (s : State) : (memWrite a v s).idle = s.idle := by rw [memWrite_state]
@[simp] theorem memWrite_irqPending (a : Addr) (v : Byte) (s : State) : (memWrite a v s).irqPending = s.irqPending := by rw [memWrite_state]
@[simp] theorem memWrite_nmiPending (a : Addr) (v : Byte) (s : State) : (memWrite a v s).nmiPending = s.nmiPending := by rw [memWrite_state]
@[simp] theorem memWrite_cur (a : Addr) (v : Byte) (s : State) : (memWrite a v s).cur = s.cur := by rw [memWrite_state]
@[simp] theorem memWrite_cfg (a : Addr) (v : Byte) (s : State) : (memWrite a v s).cfg = s.cfg := by rw [memWrite_state]
@[simp] theorem memWrite_host (a : Addr) (v : Byte) (s : State) : (memWrite a v s).host = s.host := by rw [memWrite_state]

/-! Addresses whose accesses have no side effect -/

/-- Page zero is RAM. -/
theorem zext16_lt (b : Byte) : (zext16 b).toNat < 256 := by
  have := b.isLt
  simp only [zext16, BitVec.toNat_setWidth]
  omega

theorem zext16_toNat (b : Byte) : (zext16 b).toNat = b.toNat := by
  have := b.isLt
  simp only [zext16, BitVec.toNat_setWidth]
  omega

theorem stackAddr_eq : ∀ sp : Byte, stackAddr sp = 0x0100#16 + zext16 sp := by decide

theorem stackAddr_toNat (sp : Byte) : (stackAddr sp).toNat = 256 + sp.toNat := by
  have := sp.isLt
  rw [stackAddr_eq, BitVec.toNat_add, zext16_toNat]
  simp only [BitVec.toNat_ofNat]
  omega

theorem stackAddr_le (sp : Byte) : stackAddr sp ≤ 0x1FFF#16 := by
  have := sp.isLt
  rw [BitVec.le_def, stackAddr_toNat]
  simp only [BitVec.toNat_ofNat]
  omega

theorem memRead_at_ram {a : Addr} (h : a ≤ 0x1FFF#16) (s : State) : memRead a s = (Memory.read s.ram (a.toNat % 2048), s) := by
  simp [memRead, h]

theorem memWrite_at_ram {a : Addr} (h : a ≤ 0x1FFF#16) (v : Byte) (s : State) :
    memWrite a v s = { s with ram := Memory.write s.ram (a.toNat % 2048) v } := by
  simp [memWrite, h]

/-- A read outside the PPU registers and the controller port has no side effect (20_memory.md R87). -/
theorem memRead_pure {a : Addr} (h : a ≤ 0x1FFF#16 ∨ 0x4000#16 ≤ a) (h' : a ≠ 0x4016#16) (s : State) : (memRead a s).2 = s := by
  unfold memRead
  split
  · rfl
  · split
    · exfalso
      rename_i h1 h2
      simp only [BitVec.le_def, BitVec.toNat_ofNat] at *
      omega
    · (repeat' split) <;> rfl

theorem memRead_fst (a : Addr) (s : State) : (memRead a s).1 = peek a s := rfl

/-! The stack -/

theorem push_eq (v : Byte) (s : State) :
    push v s = { s with ram := Memory.write s.ram (256 + s.s.toNat) v, s := s.s - 1#8 } := by
  have h := s.s.isLt
  unfold push
  rw [memWrite_at_ram (stackAddr_le _), stackAddr_toNat]
  rw [Nat.mod_eq_of_lt (by omega)]

theorem pull_eq (s : State) :
    pull s = (Memory.read s.ram (256 + (s.s + 1#8).toNat), { s with s := s.s + 1#8 }) := by
  have h := (s.s + 1#8).isLt
  unfold pull
  rw [memRead_at_ram (stackAddr_le _), stackAddr_toNat]
  rw [Nat.mod_eq_of_lt (by omega)]

theorem push16_eq (w : Addr) (s : State) :
    push16 w s = { s with ram := Memory.write (Memory.write s.ram (256 + s.s.toNat) (hi w)) (256 + (s.s - 1#8).toNat) (lo w), s := s.s - 2#8 } := by
  simp only [push16, push_eq]
  congr 1
  rw [BitVec.sub_sub]
  rfl

theorem pull16_eq (s : State) :
    pull16 s = (join (Memory.read s.ram (256 + (s.s + 2#8).toNat)) (Memory.read s.ram (256 + (s.s + 1#8).toNat)), { s with s := s.s + 2#8 }) := by
  have : s.s + 1#8 + 1#8 = s.s + 2#8 := by rw [BitVec.add_assoc]; rfl
  simp only [pull16, pull_eq, this]

theorem join_hi_lo (w : Addr) : join (hi w) (lo w) = w := by
  apply BitVec.eq_of_toNat_eq
  have := w.isLt
  simp only [join, hi, lo, BitVec.toNat_append, BitVec.toNat_setWidth, BitVec.toNat_ushiftRight]
  rw [Nat.shiftLeft_eq, Nat.shiftRight_eq_div_pow, Nat.mod_eq_of_lt (show w.toNat / 2 ^ 8 < 2 ^ 8 by omega)]
  rw [Nat.mul_comm, ← Nat.two_pow_add_eq_or_of_lt (Nat.mod_lt _ (by decide))]
  omega

end Sys2Proof.Machine
end

