-- ==== Sys2Proof/Laws/Flags.lean ====
section
/-! SUPPORT. The laws of the status byte: what each flag write changes and what it leaves. -/

namespace Sys2Proof.Machine

theorem byte_eq_of_bits {a b : Byte} (h : ∀ i, i < 8 → a.getLsbD i = b.getLsbD i) : a = b :=
  BitVec.eq_of_getLsbD_eq fun i hi => h i hi

/-- Writing a flag leaves every bit outside it. -/
theorem putFlag_and_other {f g : Byte} (h : f &&& g = 0#8) (b : Bool) (p : Byte) : putFlag f b p &&& g = p &&& g := by
  apply byte_eq_of_bits
  intro i hi
  have hb : (f &&& g).getLsbD i = false := by rw [h]; simp
  rw [BitVec.getLsbD_and] at hb
  cases b <;> cases hf : f.getLsbD i <;> cases hg : g.getLsbD i <;> simp_all [putFlag]

/-- Reading a flag just written. -/
theorem hasFlag_putFlag_same {f : Byte} (hf : f ≠ 0#8) (b : Bool) (p : Byte) : hasFlag f (putFlag f b p) = b := by
  have key : putFlag f b p &&& f = if b then f else 0#8 := by
    apply byte_eq_of_bits
    intro i hi
    cases b <;> cases hf : f.getLsbD i <;> simp_all [putFlag]
  unfold hasFlag
  rw [key]
  cases b <;> simp [hf]

/-- Reading another flag after writing one. -/
theorem hasFlag_putFlag_other {f g : Byte} (h : f &&& g = 0#8) (b : Bool) (p : Byte) : hasFlag g (putFlag f b p) = hasFlag g p := by
  unfold hasFlag
  rw [putFlag_and_other h]

/-- A flag already at a value is left. -/
theorem putFlag_and_not (f : Byte) (b : Bool) (p : Byte) : putFlag f b p &&& ~~~f = p &&& ~~~f := by
  apply byte_eq_of_bits
  intro i hi
  cases b <;> cases hf : f.getLsbD i <;> simp_all [putFlag]

theorem statusOk_iff (p : Byte) : statusOk p = true ↔ p &&& 0x30#8 = 0x20#8 := by
  revert p
  decide

/-- A write of any flag outside bits 5 and 4 keeps them. -/
theorem statusOk_putFlag {f : Byte} (h : f &&& 0x30#8 = 0#8) (b : Bool) {p : Byte} (hp : statusOk p = true) : statusOk (putFlag f b p) = true := by
  rw [statusOk_iff] at *
  rw [putFlag_and_other h, hp]

theorem statusOk_pulledStatus (m : Byte) : statusOk (pulledStatus m) = true := by
  revert m
  decide

theorem statusOk_setZN {s : State} (h : statusOk s.p = true) (v : Byte) : statusOk (setZN v s).p = true := by
  simp only [setZN_p]
  exact statusOk_putFlag (by decide) _ (statusOk_putFlag (by decide) _ h)

theorem statusOk_setFlag {s : State} {f : Byte} (h : statusOk s.p = true) (hf : f &&& 0x30#8 = 0#8) (b : Bool) : statusOk (setFlag f b s).p = true :=
  statusOk_putFlag hf b h

/-- `SetZN` as one bit formula: Z and N from the value, the other six bits kept (10_state.md R31). -/
theorem setZN_status (v p : Byte) :
    putFlag flagN (v.getLsbD 7) (putFlag flagZ (v == 0#8) p) = (p &&& 0x7D#8) ||| (v &&& 0x80#8) ||| (if v = 0#8 then 0x02#8 else 0x00#8) := by
  have hv : v &&& 0x80#8 = if v.getLsbD 7 then 0x80#8 else 0x00#8 := by
    revert v
    decide
  have hN : ∀ (b : Bool) (q : Byte), putFlag flagN b q = (q &&& 0x7F#8) ||| (if b then 0x80#8 else 0x00#8) := by decide
  have hZ : ∀ (b : Bool) (q : Byte), putFlag flagZ b q = (q &&& 0xFD#8) ||| (if b then 0x02#8 else 0x00#8) := by decide
  have hc : ∀ (b c : Bool) (q : Byte), ((q &&& 0xFD#8) ||| (if c then 0x02#8 else 0x00#8)) &&& 0x7F#8 ||| (if b then 0x80#8 else 0x00#8) =
      (q &&& 0x7D#8) ||| (if b then 0x80#8 else 0x00#8) ||| (if c then 0x02#8 else 0x00#8) := by decide
  rw [hN, hZ, hc, hv]
  simp only [beq_iff_eq]

end Sys2Proof.Machine
end

