-- ==== Sys2Proof/Laws/Invariant.lean ====
section
/-! SUPPORT. The shared operations keep the invariant `Inv`: one lemma for each. -/

namespace Sys2Proof.Machine

/-- A change of CPU registers, latches and the host's side keeps the invariant where it keeps its two clauses on `P` and `idle`. -/
theorem Inv.ofCpu {s t : State} (h : Inv s)
    (ht : t = { s with
      a := t.a, x := t.x, y := t.y, s := t.s, pc := t.pc, p := t.p, cycles := t.cycles, idle := t.idle,
      irqPending := t.irqPending, nmiPending := t.nmiPending, cur := t.cur, host := t.host })
    (hp : statusOk t.p = true) (hi : t.idle ≤ 8) : Inv t := by
  rw [ht] at hp hi ⊢
  exact ⟨hp, ⟨hi, h.counters.2⟩, h.position, h.sprites, h.memories, h.mapper, h.mirroring, h.cart, h.colours⟩

/-- A change of the PPU alone. -/
theorem Inv.ofPpu {s : State} (h : Inv s) {p : Ppu} (hpos : positionOk p) (hspr : spritesOk p) (ho : Memory.wf oamSize p.oam)
    (hpal : Memory.wf paletteSize p.palette) (hn : Memory.wf ntSize p.nt) (he : Memory.wf ntSize p.ntExt) (hf : Memory.wf fbSize p.fb) :
    Inv (setPpu p s) :=
  ⟨h.status, h.counters, hpos, hspr, ⟨h.memories.1, h.memories.2.1, h.memories.2.2.1, h.memories.2.2.2.1, ho, hpal, hn, he, hf⟩,
    h.mapper, h.mirroring, h.cart, h.colours⟩

/-- The fields of the PPU that the invariant names. -/
def Ppu.named (p : Ppu) : (Nat × Nat) × (List SpriteSlot × List SpriteSlot) × (Memory 8 × Memory 6) × (Memory 8 × Memory 8) × Memory 24 :=
  ((p.scanline, p.dot), (p.sprCur, p.sprNext), (p.oam, p.palette), (p.nt, p.ntExt), p.fb)

/-- A change of PPU registers that the invariant does not name. -/
theorem Inv.ofPpuRegs {s : State} (h : Inv s) {p : Ppu} (hp : p.named = s.ppu.named) : Inv (setPpu p s) := by
  simp only [Ppu.named, Prod.mk.injEq] at hp
  obtain ⟨⟨h1, h2⟩, ⟨h3, h4⟩, ⟨h5, h6⟩, ⟨h7, h8⟩, h9⟩ := hp
  obtain ⟨-, -, -, -, m5, m6, m7, m8, m9⟩ := h.memories
  have hpos : positionOk p := by simpa only [positionOk, h1, h2] using h.position
  have hspr : spritesOk p := by simpa only [spritesOk, h3, h4] using h.sprites
  exact h.ofPpu hpos hspr (h5 ▸ m5) (h6 ▸ m6) (h7 ▸ m7) (h8 ▸ m8) (h9 ▸ m9)

theorem Inv.withPad {s : State} (h : Inv s) {d : Pad} (hd : d.cursor ≤ 8) : Inv { s with pad := d } :=
  ⟨h.status, ⟨h.counters.1, h.counters.2.1, hd⟩, h.position, h.sprites, h.memories, h.mapper, h.mirroring, h.cart, h.colours⟩

theorem Inv.withDma {s : State} (h : Inv s) {d : Dma} (hd : d.dummy ≤ 2) : Inv { s with dma := d } :=
  ⟨h.status, ⟨h.counters.1, hd, h.counters.2.2⟩, h.position, h.sprites, h.memories, h.mapper, h.mirroring, h.cart, h.colours⟩

theorem Inv.withRam {s : State} (h : Inv s) {m : Memory 8} (hm : Memory.wf ramSize m) : Inv { s with ram := m } :=
  ⟨h.status, h.counters, h.position, h.sprites, ⟨hm, h.memories.2⟩, h.mapper, h.mirroring, h.cart, h.colours⟩

theorem Inv.withWram {s : State} (h : Inv s) {m : Memory 8} (hm : Memory.wf wramSize m) : Inv { s with wram := m } :=
  ⟨h.status, h.counters, h.position, h.sprites, ⟨h.memories.1, hm, h.memories.2.2⟩, h.mapper, h.mirroring, h.cart, h.colours⟩

theorem Inv.withChrRam {s : State} (h : Inv s) {m : Memory 8} (hm : Memory.wf chrBankSize m) : Inv { s with chrRam := m } :=
  ⟨h.status, h.counters, h.position, h.sprites, ⟨h.memories.1, h.memories.2.1, hm, h.memories.2.2.2⟩, h.mapper, h.mirroring, h.cart,
    h.colours⟩

theorem Inv.withApu {s : State} (h : Inv s) {m : Memory 8} (hm : Memory.wf apuSize m) : Inv { s with apu := m } :=
  ⟨h.status, h.counters, h.position, h.sprites,
    ⟨h.memories.1, h.memories.2.1, h.memories.2.2.1, hm, h.memories.2.2.2.2⟩, h.mapper, h.mirroring, h.cart, h.colours⟩

theorem Inv.withMapper {s : State} (h : Inv s) {m : Mapper} (hk : mapperKind m = s.cfg.cart.mapper) (hr : mapperRegsOk m = true) :
    Inv { s with mapper := m } :=
  ⟨h.status, h.counters, h.position, h.sprites, h.memories, ⟨hk, hr⟩, h.mirroring, h.cart, h.colours⟩

/-! The PPU bus and registers -/

theorem chrOffset_lt {s : State} (h : s.cfg.cart.chrBanks = 0) (a : Addr) : chrOffset s a < chrBankSize := by
  unfold chrOffset
  rw [h]
  exact Nat.mod_lt _ (by decide)

theorem ntPage_lt (s : State) (a : Addr) : ntPage s a < 4 := by
  unfold ntPage nametablePage
  split <;> omega

theorem palIndex_lt (a : Addr) : palIndex a < paletteSize := by
  simp only [palIndex]
  split <;> simp only [paletteSize] <;> omega

theorem Inv.ntWrite {s : State} (h : Inv s) (a : Addr) (v : Byte) : Inv (ntWrite a v s) := by
  have hp := ntPage_lt s a
  have ho : ntOffset a < 1024 := Nat.mod_lt _ (by decide)
  obtain ⟨-, -, -, -, m5, m6, m7, m8, m9⟩ := h.memories
  unfold Machine.ntWrite
  simp only
  split
  · exact h.ofPpu h.position h.sprites m5 m6 (Memory.wf_write m7 (by simp only [ntSize]; omega) v) m8 m9
  · exact h.ofPpu h.position h.sprites m5 m6 m7 (Memory.wf_write m8 (by simp only [ntSize]; omega) v) m9

theorem Inv.ppuWrite {s : State} (h : Inv s) (a : Addr) (v : Byte) : Inv (ppuWrite a v s) := by
  obtain ⟨-, -, m3, -, m5, m6, m7, m8, m9⟩ := h.memories
  unfold Machine.ppuWrite
  simp only
  split
  · unfold mapperPpuWrite
    split
    · rename_i hc
      exact h.withChrRam (Memory.wf_write m3 (chrOffset_lt hc _) v)
    · exact h
  · split
    · exact h.ntWrite _ v
    · exact h.ofPpu h.position h.sprites m5 (Memory.wf_write m6 (palIndex_lt _) _) m7 m8 m9

theorem Inv.vramInc {s : State} (h : Inv s) : Inv (vramInc s) :=
  h.ofPpuRegs rfl

theorem Inv.ppuRegWrite {s : State} (h : Inv s) (i : Nat) (d : Byte) : Inv (ppuRegWrite i d s) := by
  obtain ⟨-, -, -, -, m5, m6, m7, m8, m9⟩ := h.memories
  unfold Machine.ppuRegWrite
  split
  · exact h.ofPpuRegs rfl
  · exact h.ofPpuRegs rfl
  · exact h.ofPpuRegs rfl
  · exact h.ofPpu h.position h.sprites (Memory.wf_write m5 s.ppu.oamaddr.isLt d) m6 m7 m8 m9
  · unfold scrollWrite
    split <;> exact h.ofPpuRegs rfl
  · unfold addrWrite
    split <;> exact h.ofPpuRegs rfl
  · exact (h.ppuWrite _ d).vramInc
  · exact h

theorem Inv.ppuRegRead {s : State} (h : Inv s) (i : Nat) : Inv (ppuRegRead i s).2 := by
  unfold Machine.ppuRegRead
  split
  · exact h.ofPpuRegs rfl
  · exact h
  · unfold dataRead
    simp only
    split <;> exact h.ofPpuRegs rfl
  · exact h

/-! The controller, the DMA engine, the APU stub -/

theorem Inv.padRead {s : State} (h : Inv s) : Inv (padRead s).2 := by
  have hc := h.counters.2.2
  unfold Machine.padRead
  split
  · exact h
  · split
    · exact h.withPad (by show s.pad.cursor + 1 ≤ 8; omega)
    · exact h

theorem Inv.padWrite {s : State} (h : Inv s) (v : Byte) : Inv (padWrite v s) := by
  unfold Machine.padWrite
  split
  · exact h.withPad h.counters.2.2
  · exact h.withPad (Nat.zero_le 8)

theorem Inv.dmaStart {s : State} (h : Inv s) (v : Byte) : Inv (dmaStart v s) :=
  h.withDma (by
    show (if s.cycles.getLsbD 0 then 2 else 1) ≤ 2
    split <;> omega)

theorem Inv.apuWrite {s : State} (h : Inv s) {a : Addr} (ha : 0x4000#16 ≤ a ∧ a ≤ 0x4017#16) (v : Byte) : Inv (apuWrite a v s) := by
  refine h.withApu (Memory.wf_write h.memories.2.2.2.1 ?_ v)
  simp only [BitVec.le_def, BitVec.toNat_ofNat] at ha
  show a.toNat - 0x4000 < 24
  omega

/-! The cartridge -/

theorem sxMirroring_ne (c : BitVec 5) : sxMirroring c ≠ .fourScreen := by
  unfold sxMirroring
  split <;> decide

theorem Inv.setMirroring {s : State} (h : Inv s) {m : Mirroring} (hm : m ≠ .fourScreen) : Inv (setMirroring m s) := by
  unfold Machine.setMirroring
  split
  · exact h
  · rename_i hf
    exact ⟨h.status, h.counters, h.position, h.sprites, h.memories, h.mapper, ⟨fun e => absurd e hm, fun e => absurd e hf⟩, h.cart, h.colours⟩

theorem Inv.mapperCpuWrite {s : State} (h : Inv s) (a : Addr) (v : Byte) : Inv (mapperCpuWrite a v s) := by
  have hk := h.mapper.1
  have hr := h.mapper.2
  unfold Machine.mapperCpuWrite
  split
  · exact h
  split
  · rename_i h1 h2
    refine h.withWram (Memory.wf_write h.memories.2.1 ?_ v)
    simp only [BitVec.lt_def, BitVec.toNat_ofNat] at h1 h2
    show a.toNat - 0x6000 < 8192
    omega
  split
  · exact h
  · rename_i m hm
    rw [hm] at hk hr
    have hcount : m.count ≤ 4 := by simpa [mapperRegsOk] using hr
    unfold sxWrite
    split
    · exact h.withMapper hk (by simp [mapperRegsOk])
    · split
      · unfold sxLatch
        split
        · exact (h.withMapper (m := .sxrom { m with shift := 0, count := 0, control := sxShiftIn m.shift v }) hk
            (by simp [mapperRegsOk])).setMirroring (sxMirroring_ne _)
        all_goals exact h.withMapper hk (by simp [mapperRegsOk])
      · exact h.withMapper hk (by simp only [mapperRegsOk, decide_eq_true_eq]; omega)
  · rename_i m hm
    rw [hm] at hk hr
    have hwf : Memory.wf 8 m.r := by simpa only [mapperRegsOk, decide_eq_true_eq] using hr
    have hr' : ∀ n, mapperRegsOk (.txrom n) = decide (Memory.wf 8 n.r) := fun n => rfl
    unfold txWrite
    split
    · exact h.withMapper hk (by rw [hr']; exact decide_eq_true hwf)
    · exact h.withMapper hk (by rw [hr']; exact decide_eq_true (Memory.wf_write hwf (Nat.mod_lt _ (by decide)) v))
    · exact h.setMirroring (by split <;> decide)
    all_goals exact h.withMapper hk (by rw [hr']; exact decide_eq_true hwf)

/-! The CPU bus and the stack -/

theorem Inv.memRead {s : State} (h : Inv s) (a : Addr) : Inv (memRead a s).2 := by
  unfold Machine.memRead
  (repeat' split)
  all_goals first
    | exact h
    | exact h.ppuRegRead _
    | exact h.padRead

theorem Inv.memWrite {s : State} (h : Inv s) (a : Addr) (v : Byte) : Inv (memWrite a v s) := by
  unfold Machine.memWrite
  split
  · exact h.withRam (Memory.wf_write h.memories.1 (Nat.mod_lt _ (by decide)) v)
  split
  · exact h.ppuRegWrite _ v
  split
  · exact h.dmaStart v
  split
  · exact h.padWrite v
  split
  · rename_i h1 h2 h3 h4 h5
    refine h.apuWrite ⟨?_, h5⟩ v
    simp only [BitVec.le_def, BitVec.toNat_ofNat] at *
    omega
  split
  · exact h
  · exact h.mapperCpuWrite a v

theorem Inv.read16 {s : State} (h : Inv s) (a : Addr) : Inv (read16 a s).2 := (h.memRead a).memRead _

theorem Inv.push {s : State} (h : Inv s) (v : Byte) : Inv (push v s) :=
  (h.memWrite _ v).ofCpu rfl (h.memWrite _ v).status (h.memWrite _ v).counters.1

theorem Inv.pull {s : State} (h : Inv s) : Inv (pull s).2 :=
  (h.ofCpu rfl h.status h.counters.1 : Inv { s with s := s.s + 1#8 }).memRead _

theorem Inv.push16 {s : State} (h : Inv s) (w : Addr) : Inv (push16 w s) := (h.push _).push _

theorem Inv.pull16 {s : State} (h : Inv s) : Inv (pull16 s).2 := h.pull.pull

theorem Inv.withStatus {s : State} (h : Inv s) {p : Byte} (hp : statusOk p = true) : Inv { s with p := p } := h.ofCpu rfl hp h.counters.1

theorem Inv.withPc {s : State} (h : Inv s) (w : Addr) : Inv { s with pc := w } := h.ofCpu rfl h.status h.counters.1

theorem Inv.retire {s : State} (h : Inv s) {n : Nat} (hn : n ≤ 9) : Inv (retire n s) :=
  h.ofCpu rfl h.status (by show n - 1 ≤ 8; omega)

theorem Inv.setFlag {s : State} (h : Inv s) {f : Byte} (hf : f &&& 0x30#8 = 0#8) (b : Bool) : Inv (setFlag f b s) :=
  h.withStatus (statusOk_setFlag h.status hf b)

theorem Inv.setZN {s : State} (h : Inv s) (v : Byte) : Inv (setZN v s) := h.withStatus (statusOk_setZN h.status v)

/-- Taking an exception keeps the invariant. -/
theorem Inv.takeException {s : State} (h : Inv s) (vec : Addr) (pushed : Byte) {after : Byte → Byte}
    (hafter : ∀ p, statusOk p = true → statusOk (after p) = true) : Inv (takeException vec pushed after s) := by
  have h1 := (h.push16 s.pc).push pushed
  exact (((h1.withStatus (hafter _ h1.status)).setFlag (by decide) true).read16 vec).withPc _

/-- Returning from one keeps it too. -/
theorem Inv.returnFromException {s : State} (h : Inv s) : Inv (returnFromException s) :=
  ((h.pull.withStatus (statusOk_pulledStatus _)).pull16).withPc _

end Sys2Proof.Machine
end

