-- ==== Sys2Proof/Laws/Classes.lean ====
section
/-! SUPPORT. What the access classes can do (30_encoding.md R134): each one's effect on a state in one lemma, and that it keeps the
invariant. -/

namespace Sys2Proof.Machine

/-- Reading the operand touches the PPU and the controller alone. -/
theorem readSource_state (o : Source) (s : State) :
    (readSource o s).2 = { s with ppu := (readSource o s).2.ppu, pad := (readSource o s).2.pad } := by
  cases o with
  | imm v => rfl
  | mem m => exact memRead_state _ s

theorem Inv.readSource {s : State} (h : Inv s) (o : Source) : Inv (readSource o s).2 := by
  cases o with
  | imm v => exact h
  | mem m => exact h.memRead _

theorem crossPenalty_le (b : Bool) (o : Source) (s : State) : crossPenalty b o s ≤ 1 := by
  unfold crossPenalty
  split
  · omega
  · split <;> omega

/-- A read-class instruction keeps the invariant where its register operation does. -/
theorem Inv.readClass {s : State} (h : Inv s) {base : Nat} (hb : base ≤ 8) (marked : Bool) (o : Source) {f : Byte → State → State}
    (hf : ∀ m t, Inv t → Inv (f m t)) : Inv (readClass base marked o f s) := by
  have := crossPenalty_le marked o s
  exact (hf _ _ (h.readSource o)).retire (by omega)

theorem Inv.writeClass {s : State} (h : Inv s) {base : Nat} (hb : base ≤ 9) (m : AddrMode) (v : Byte) : Inv (writeClass base m v s) :=
  (h.memWrite _ v).retire hb

theorem Inv.rmwClass {s : State} (h : Inv s) {base : Nat} (hb : base ≤ 9) (m : AddrMode) (f : Byte → State → Byte)
    {g : Byte → Byte → State → State} (hg : ∀ m r t, Inv t → Inv (g m r t)) : Inv (rmwClass base m f g s) :=
  (hg _ _ _ ((h.memRead _).memWrite _ _)).retire hb

theorem Inv.accClass {s : State} (h : Inv s) {base : Nat} (hb : base ≤ 9) (f : Byte → State → Byte)
    {g : Byte → Byte → State → State} (hg : ∀ m r t, Inv t → Inv (g m r t)) : Inv (accClass base f g s) :=
  (hg _ _ _ (h.ofCpu rfl h.status h.counters.1 : Inv { s with a := f s.a s })).retire hb

theorem Inv.branch {s : State} (h : Inv s) (c : Bool) (d : Byte) : Inv (branch c d s) := by
  unfold Machine.branch
  simp only
  split
  · refine (h.withPc _).retire ?_
    split <;> omega
  · exact h.retire (by omega)

/-! The register operations -/

theorem Inv.withA {s : State} (h : Inv s) (v : Byte) : Inv { s with a := v } := h.ofCpu rfl h.status h.counters.1
theorem Inv.withX {s : State} (h : Inv s) (v : Byte) : Inv { s with x := v } := h.ofCpu rfl h.status h.counters.1
theorem Inv.withY {s : State} (h : Inv s) (v : Byte) : Inv { s with y := v } := h.ofCpu rfl h.status h.counters.1
theorem Inv.withS {s : State} (h : Inv s) (v : Byte) : Inv { s with s := v } := h.ofCpu rfl h.status h.counters.1

theorem Inv.addWithCarry {s : State} (h : Inv s) (m : Byte) (c : Nat) : Inv (addWithCarry m c s) :=
  (((h.setFlag (by decide) _).setFlag (by decide) _).withA _).setZN _

theorem Inv.compare {s : State} (h : Inv s) (r m : Byte) : Inv (compare r m s) :=
  ((h.setFlag (by decide) _).setFlag (by decide) _).setFlag (by decide) _

theorem Inv.bitTest {s : State} (h : Inv s) (m : Byte) : Inv (bitTest m s) :=
  ((h.setFlag (by decide) _).setFlag (by decide) _).setFlag (by decide) _

end Sys2Proof.Machine
end

