-- ==== Sys2Proof/Laws/Decode.lean ====
section
/-! SUPPORT. Laws of the opcode table, the decoder and the encoder. -/

namespace Sys2Proof

/-- The opcode table has a row for every opcode byte, so `opTable`'s fallback is never taken. -/
theorem opTable_total (op : Byte) :
    op.toNat / 16 < opMatrix.length ∧ op.toNat % 16 < (opMatrix.getD (op.toNat / 16) []).length := by
  revert op
  decide

@[simp] theorem operand16_lo_hi (w : Addr) : operand16 (operandLo w) (operandHi w) = w := by
  apply BitVec.eq_of_getLsbD_eq
  intro i hi
  simp only [operand16, operandLo, operandHi, BitVec.getLsbD_append, BitVec.getLsbD_setWidth, BitVec.getLsbD_ushiftRight]
  by_cases h : i < 8
  · simp [h]
  · have h2 : i - 8 < 8 := by omega
    have h3 : 8 + (i - 8) = i := by omega
    simp [h, h2, h3]

@[simp] theorem operandLo_operand16 (ll hh : Byte) : operandLo (operand16 ll hh) = ll := by
  apply BitVec.eq_of_getLsbD_eq
  intro i hi
  simp only [operand16, operandLo, BitVec.getLsbD_setWidth, BitVec.getLsbD_append, hi, decide_true, Bool.true_and, if_true]

@[simp] theorem operandHi_operand16 (ll hh : Byte) : operandHi (operand16 ll hh) = hh := by
  apply BitVec.eq_of_getLsbD_eq
  intro i hi
  have h1 : ¬ 8 + i < 8 := by omega
  have h2 : 8 + i - 8 = i := by omega
  simp only [operand16, operandHi, BitVec.getLsbD_setWidth, BitVec.getLsbD_ushiftRight, BitVec.getLsbD_append, hi, h1, h2, decide_true,
    Bool.true_and, if_false]

/-- How many operand bytes a format has. -/
def Format.operands : Format → Nat
  | .f1 _ => 0
  | .f2 _ => 1
  | .f3 _ => 2

/-- The format and the addressing mode of a row agree on the length (30_encoding.md R122). -/
theorem format_operands (op : Byte) : (opTable op).format.operands + 1 = (opTable op).mode.length := by
  revert op
  decide

theorem decode_f1 {op : Byte} {i : Instr} (h : (opTable op).format = .f1 i) (rest : List Byte) : decode (op :: rest) = .ok (i, rest) := by
  simp [decode, h]

theorem decode_f2 {op : Byte} {make : Byte → Instr} (h : (opTable op).format = .f2 make) (nn : Byte) (rest : List Byte) :
    decode (op :: nn :: rest) = .ok (make nn, rest) := by
  simp [decode, h]

theorem decode_f3 {op : Byte} {make : Addr → Instr} (h : (opTable op).format = .f3 make) (ll hh : Byte) (rest : List Byte) :
    decode (op :: ll :: hh :: rest) = .ok (make (operand16 ll hh), rest) := by
  simp [decode, h]

end Sys2Proof
end

