-- ==== Sys2Proof/Laws/Exec.lean ====
section
/-! SUPPORT. What an instruction can do: `exec` always answers a next state, and the instruction's operation says which of ten shapes
that state has. -/

namespace Sys2Proof.Machine

/-- The register operations of the read-class instructions. -/
def readOps : List (Op × (Byte → State → State)) :=
  [(.lda, lda), (.ldx, ldx), (.ldy, ldy), (.lax, lax), (.adc, adc), (.sbc, sbc), (.and, and), (.ora, ora), (.eor, eor),
   (.cmp, cmp), (.cpx, cpx), (.cpy, cpy), (.bit, bit)]

/-- The byte and the register operation of the read-modify-write instructions. -/
def rmwOps : List (Op × (Byte → State → Byte) × (Byte → Byte → State → State)) :=
  [(.inc, incByte, incAfter), (.dec, decByte, decAfter), (.asl, aslByte, aslAfter), (.lsr, lsrByte, lsrAfter),
   (.rol, rolByte, rolAfter), (.ror, rorByte, rorAfter), (.dcp, dcpByte, dcpAfter), (.isb, isbByte, isbAfter),
   (.slo, sloByte, sloAfter), (.rla, rlaByte, rlaAfter), (.sre, sreByte, sreAfter), (.rra, rraByte, rraAfter)]

/-- The byte a store instruction stores. -/
def storeOps : List (Op × (State → Byte)) :=
  [(.sta, fun s => s.a), (.stx, fun s => s.x), (.sty, fun s => s.y), (.sax, fun s => s.a &&& s.x)]

/-- The condition of a branch. -/
def branchOps : List (Op × (State → Bool)) :=
  [(.bcc, fun s => !hasFlag flagC s.p), (.bcs, fun s => hasFlag flagC s.p), (.beq, fun s => hasFlag flagZ s.p),
   (.bne, fun s => !hasFlag flagZ s.p), (.bmi, fun s => hasFlag flagN s.p), (.bpl, fun s => !hasFlag flagN s.p),
   (.bvc, fun s => !hasFlag flagV s.p), (.bvs, fun s => hasFlag flagV s.p)]

/-- The instructions on registers and flags alone. -/
def registerOps : List (Op × (State → State)) :=
  [(.tax, tax), (.tay, tay), (.txa, txa), (.tya, tya), (.tsx, tsx), (.txs, txs), (.inx, inx), (.iny, iny), (.dex, dex),
   (.dey, dey), (.clc, setFlag flagC false), (.sec, setFlag flagC true), (.cli, setFlag flagI false),
   (.sei, setFlag flagI true), (.clv, setFlag flagV false), (.cld, setFlag flagD false), (.sed, setFlag flagD true),
   (.nop, id), (.hole, id)]

/-- The instructions on the stack. -/
def stackOps : List (Op × (State → State)) :=
  [(.pha, pha), (.php, php), (.pla, pla), (.plp, plp), (.rts, rts), (.brk, breakEntry), (.rti, returnFromException)]

/-- The shapes of an instruction's next state, by its operation. -/
inductive ExecShape (s : State) : Op → State → Prop where
  | read {op : Op} {f : Byte → State → State} (hf : (op, f) ∈ readOps) (base : Nat) (hb : base ≤ 6) (marked : Bool) (o : Source) :
    ExecShape s op (readClass base marked o f s)
  | write {op : Op} {v : State → Byte} (hv : (op, v) ∈ storeOps) (base : Nat) (hb : base ≤ 6) (m : AddrMode) :
    ExecShape s op (writeClass base m (v s) s)
  | rmw {op : Op} {f : Byte → State → Byte} {g : Byte → Byte → State → State} (hf : (op, f, g) ∈ rmwOps) (base : Nat) (hb : base ≤ 8)
    (m : AddrMode) : ExecShape s op (rmwClass base m f g s)
  | acc {op : Op} {f : Byte → State → Byte} {g : Byte → Byte → State → State} (hf : (op, f, g) ∈ rmwOps) :
    ExecShape s op (accClass 2 f g s)
  | branch {op : Op} {c : State → Bool} (hc : (op, c) ∈ branchOps) (d : Byte) : ExecShape s op (branch (c s) d s)
  | register {op : Op} {f : State → State} (hf : (op, f) ∈ registerOps) (n : Nat) (hn : n ≤ 2) : ExecShape s op (retire n (f s))
  | stack {op : Op} {f : State → State} (hf : (op, f) ∈ stackOps) (n : Nat) (hn : n ≤ 7) : ExecShape s op (retire n (f s))
  | jump (w : Addr) : ExecShape s .jmp (retire 3 (jump w s))
  | jumpIndirect (w : Addr) : ExecShape s .jmp (retire 5 (jumpIndirect w s))
  | jsr (w : Addr) : ExecShape s .jsr (retire 6 (jsr w s))

theorem mem_lda : (Op.lda, lda) ∈ readOps := by simp [readOps]
theorem mem_ldx : (Op.ldx, ldx) ∈ readOps := by simp [readOps]
theorem mem_ldy : (Op.ldy, ldy) ∈ readOps := by simp [readOps]
theorem mem_lax : (Op.lax, lax) ∈ readOps := by simp [readOps]
theorem mem_adc : (Op.adc, adc) ∈ readOps := by simp [readOps]
theorem mem_sbc : (Op.sbc, sbc) ∈ readOps := by simp [readOps]
theorem mem_and : (Op.and, and) ∈ readOps := by simp [readOps]
theorem mem_ora : (Op.ora, ora) ∈ readOps := by simp [readOps]
theorem mem_eor : (Op.eor, eor) ∈ readOps := by simp [readOps]
theorem mem_cmp : (Op.cmp, cmp) ∈ readOps := by simp [readOps]
theorem mem_cpx : (Op.cpx, cpx) ∈ readOps := by simp [readOps]
theorem mem_cpy : (Op.cpy, cpy) ∈ readOps := by simp [readOps]
theorem mem_bit : (Op.bit, bit) ∈ readOps := by simp [readOps]
theorem mem_inc : (Op.inc, incByte, incAfter) ∈ rmwOps := by simp [rmwOps]
theorem mem_dec : (Op.dec, decByte, decAfter) ∈ rmwOps := by simp [rmwOps]
theorem mem_asl : (Op.asl, aslByte, aslAfter) ∈ rmwOps := by simp [rmwOps]
theorem mem_lsr : (Op.lsr, lsrByte, lsrAfter) ∈ rmwOps := by simp [rmwOps]
theorem mem_rol : (Op.rol, rolByte, rolAfter) ∈ rmwOps := by simp [rmwOps]
theorem mem_ror : (Op.ror, rorByte, rorAfter) ∈ rmwOps := by simp [rmwOps]
theorem mem_dcp : (Op.dcp, dcpByte, dcpAfter) ∈ rmwOps := by simp [rmwOps]
theorem mem_isb : (Op.isb, isbByte, isbAfter) ∈ rmwOps := by simp [rmwOps]
theorem mem_slo : (Op.slo, sloByte, sloAfter) ∈ rmwOps := by simp [rmwOps]
theorem mem_rla : (Op.rla, rlaByte, rlaAfter) ∈ rmwOps := by simp [rmwOps]
theorem mem_sre : (Op.sre, sreByte, sreAfter) ∈ rmwOps := by simp [rmwOps]
theorem mem_rra : (Op.rra, rraByte, rraAfter) ∈ rmwOps := by simp [rmwOps]
theorem mem_tax : (Op.tax, tax) ∈ registerOps := by simp [registerOps]
theorem mem_tay : (Op.tay, tay) ∈ registerOps := by simp [registerOps]
theorem mem_txa : (Op.txa, txa) ∈ registerOps := by simp [registerOps]
theorem mem_tya : (Op.tya, tya) ∈ registerOps := by simp [registerOps]
theorem mem_tsx : (Op.tsx, tsx) ∈ registerOps := by simp [registerOps]
theorem mem_txs : (Op.txs, txs) ∈ registerOps := by simp [registerOps]
theorem mem_inx : (Op.inx, inx) ∈ registerOps := by simp [registerOps]
theorem mem_iny : (Op.iny, iny) ∈ registerOps := by simp [registerOps]
theorem mem_dex : (Op.dex, dex) ∈ registerOps := by simp [registerOps]
theorem mem_dey : (Op.dey, dey) ∈ registerOps := by simp [registerOps]
theorem mem_clc : (Op.clc, setFlag flagC false) ∈ registerOps := by simp [registerOps]
theorem mem_sec : (Op.sec, setFlag flagC true) ∈ registerOps := by simp [registerOps]
theorem mem_cli : (Op.cli, setFlag flagI false) ∈ registerOps := by simp [registerOps]
theorem mem_sei : (Op.sei, setFlag flagI true) ∈ registerOps := by simp [registerOps]
theorem mem_clv : (Op.clv, setFlag flagV false) ∈ registerOps := by simp [registerOps]
theorem mem_cld : (Op.cld, setFlag flagD false) ∈ registerOps := by simp [registerOps]
theorem mem_sed : (Op.sed, setFlag flagD true) ∈ registerOps := by simp [registerOps]
theorem mem_nop : (Op.nop, id) ∈ registerOps := by simp [registerOps]
theorem mem_hole : (Op.hole, id) ∈ registerOps := by simp [registerOps]
theorem mem_pha : (Op.pha, pha) ∈ stackOps := by simp [stackOps]
theorem mem_php : (Op.php, php) ∈ stackOps := by simp [stackOps]
theorem mem_pla : (Op.pla, pla) ∈ stackOps := by simp [stackOps]
theorem mem_plp : (Op.plp, plp) ∈ stackOps := by simp [stackOps]
theorem mem_rts : (Op.rts, rts) ∈ stackOps := by simp [stackOps]
theorem mem_brk : (Op.brk, breakEntry) ∈ stackOps := by simp [stackOps]
theorem mem_rti : (Op.rti, returnFromException) ∈ stackOps := by simp [stackOps]
theorem mem_sta : (Op.sta, fun s => s.a) ∈ storeOps := by simp [storeOps]
theorem mem_stx : (Op.stx, fun s => s.x) ∈ storeOps := by simp [storeOps]
theorem mem_sty : (Op.sty, fun s => s.y) ∈ storeOps := by simp [storeOps]
theorem mem_sax : (Op.sax, fun s => s.a &&& s.x) ∈ storeOps := by simp [storeOps]
theorem mem_bcc : (Op.bcc, fun (s : State) => !hasFlag flagC s.p) ∈ branchOps := by simp [branchOps]
theorem mem_bcs : (Op.bcs, fun (s : State) => hasFlag flagC s.p) ∈ branchOps := by simp [branchOps]
theorem mem_beq : (Op.beq, fun (s : State) => hasFlag flagZ s.p) ∈ branchOps := by simp [branchOps]
theorem mem_bne : (Op.bne, fun (s : State) => !hasFlag flagZ s.p) ∈ branchOps := by simp [branchOps]
theorem mem_bmi : (Op.bmi, fun (s : State) => hasFlag flagN s.p) ∈ branchOps := by simp [branchOps]
theorem mem_bpl : (Op.bpl, fun (s : State) => !hasFlag flagN s.p) ∈ branchOps := by simp [branchOps]
theorem mem_bvc : (Op.bvc, fun (s : State) => !hasFlag flagV s.p) ∈ branchOps := by simp [branchOps]
theorem mem_bvs : (Op.bvs, fun (s : State) => hasFlag flagV s.p) ∈ branchOps := by simp [branchOps]

/-- An instruction's shape, from its opcode byte. -/
theorem shape_cast {s t : State} {i : Instr} {b : Byte} {o : Op} (h : i.opcode = b) (hb : (opTable b).op = o) (hs : ExecShape s o t) :
    ExecShape s i.op t := by
  subst h
  subst hb
  exact hs

/-- Every instruction answers a next state, of the shape its operation says. -/
theorem exec_shape (i : Instr) (s : State) : ∃ t, exec i s = .next t ∧ ExecShape s i.op t :=
  match i with
  | .brk => ⟨_, rfl, shape_cast (b := 0x00#8) rfl rfl (.stack mem_brk 7 (by decide))⟩
  | .oraIzx nn => ⟨_, rfl, shape_cast (b := 0x01#8) rfl rfl (.read mem_ora 6 (by decide) false (.mem (.izx nn)))⟩
  | .hole02 => ⟨_, rfl, shape_cast (b := 0x02#8) rfl rfl (.register mem_hole 1 (by decide))⟩
  | .sloIzx nn => ⟨_, rfl, shape_cast (b := 0x03#8) rfl rfl (.rmw mem_slo 8 (by decide) (.izx nn))⟩
  | .hole04 => ⟨_, rfl, shape_cast (b := 0x04#8) rfl rfl (.register mem_hole 1 (by decide))⟩
  | .oraZp nn => ⟨_, rfl, shape_cast (b := 0x05#8) rfl rfl (.read mem_ora 3 (by decide) false (.mem (.zp nn)))⟩
  | .aslZp nn => ⟨_, rfl, shape_cast (b := 0x06#8) rfl rfl (.rmw mem_asl 5 (by decide) (.zp nn))⟩
  | .sloZp nn => ⟨_, rfl, shape_cast (b := 0x07#8) rfl rfl (.rmw mem_slo 5 (by decide) (.zp nn))⟩
  | .php => ⟨_, rfl, shape_cast (b := 0x08#8) rfl rfl (.stack mem_php 3 (by decide))⟩
  | .oraImm nn => ⟨_, rfl, shape_cast (b := 0x09#8) rfl rfl (.read mem_ora 2 (by decide) false (.imm nn))⟩
  | .aslAcc => ⟨_, rfl, shape_cast (b := 0x0A#8) rfl rfl (.acc mem_asl)⟩
  | .hole0B => ⟨_, rfl, shape_cast (b := 0x0B#8) rfl rfl (.register mem_hole 1 (by decide))⟩
  | .hole0C => ⟨_, rfl, shape_cast (b := 0x0C#8) rfl rfl (.register mem_hole 1 (by decide))⟩
  | .oraAbs w => ⟨_, rfl, shape_cast (b := 0x0D#8) rfl rfl (.read mem_ora 4 (by decide) false (.mem (.abs w)))⟩
  | .aslAbs w => ⟨_, rfl, shape_cast (b := 0x0E#8) rfl rfl (.rmw mem_asl 6 (by decide) (.abs w))⟩
  | .sloAbs w => ⟨_, rfl, shape_cast (b := 0x0F#8) rfl rfl (.rmw mem_slo 6 (by decide) (.abs w))⟩
  | .bpl nn => ⟨_, rfl, shape_cast (b := 0x10#8) rfl rfl (.branch mem_bpl nn)⟩
  | .oraIzy nn => ⟨_, rfl, shape_cast (b := 0x11#8) rfl rfl (.read mem_ora 5 (by decide) true (.mem (.izy nn)))⟩
  | .hole12 => ⟨_, rfl, shape_cast (b := 0x12#8) rfl rfl (.register mem_hole 1 (by decide))⟩
  | .sloIzy nn => ⟨_, rfl, shape_cast (b := 0x13#8) rfl rfl (.rmw mem_slo 8 (by decide) (.izy nn))⟩
  | .hole14 => ⟨_, rfl, shape_cast (b := 0x14#8) rfl rfl (.register mem_hole 1 (by decide))⟩
  | .oraZpx nn => ⟨_, rfl, shape_cast (b := 0x15#8) rfl rfl (.read mem_ora 4 (by decide) false (.mem (.zpx nn)))⟩
  | .aslZpx nn => ⟨_, rfl, shape_cast (b := 0x16#8) rfl rfl (.rmw mem_asl 6 (by decide) (.zpx nn))⟩
  | .sloZpx nn => ⟨_, rfl, shape_cast (b := 0x17#8) rfl rfl (.rmw mem_slo 6 (by decide) (.zpx nn))⟩
  | .clc => ⟨_, rfl, shape_cast (b := 0x18#8) rfl rfl (.register mem_clc 2 (by decide))⟩
  | .oraAby w => ⟨_, rfl, shape_cast (b := 0x19#8) rfl rfl (.read mem_ora 4 (by decide) true (.mem (.aby w)))⟩
  | .hole1A => ⟨_, rfl, shape_cast (b := 0x1A#8) rfl rfl (.register mem_hole 1 (by decide))⟩
  | .sloAby w => ⟨_, rfl, shape_cast (b := 0x1B#8) rfl rfl (.rmw mem_slo 7 (by decide) (.aby w))⟩
  | .hole1C => ⟨_, rfl, shape_cast (b := 0x1C#8) rfl rfl (.register mem_hole 1 (by decide))⟩
  | .oraAbx w => ⟨_, rfl, shape_cast (b := 0x1D#8) rfl rfl (.read mem_ora 4 (by decide) true (.mem (.abx w)))⟩
  | .aslAbx w => ⟨_, rfl, shape_cast (b := 0x1E#8) rfl rfl (.rmw mem_asl 7 (by decide) (.abx w))⟩
  | .sloAbx w => ⟨_, rfl, shape_cast (b := 0x1F#8) rfl rfl (.rmw mem_slo 7 (by decide) (.abx w))⟩
  | .jsr w => ⟨_, rfl, shape_cast (b := 0x20#8) rfl rfl (.jsr w)⟩
  | .andIzx nn => ⟨_, rfl, shape_cast (b := 0x21#8) rfl rfl (.read mem_and 6 (by decide) false (.mem (.izx nn)))⟩
  | .hole22 => ⟨_, rfl, shape_cast (b := 0x22#8) rfl rfl (.register mem_hole 1 (by decide))⟩
  | .rlaIzx nn => ⟨_, rfl, shape_cast (b := 0x23#8) rfl rfl (.rmw mem_rla 8 (by decide) (.izx nn))⟩
  | .bitZp nn => ⟨_, rfl, shape_cast (b := 0x24#8) rfl rfl (.read mem_bit 3 (by decide) false (.mem (.zp nn)))⟩
  | .andZp nn => ⟨_, rfl, shape_cast (b := 0x25#8) rfl rfl (.read mem_and 3 (by decide) false (.mem (.zp nn)))⟩
  | .rolZp nn => ⟨_, rfl, shape_cast (b := 0x26#8) rfl rfl (.rmw mem_rol 5 (by decide) (.zp nn))⟩
  | .rlaZp nn => ⟨_, rfl, shape_cast (b := 0x27#8) rfl rfl (.rmw mem_rla 5 (by decide) (.zp nn))⟩
  | .plp => ⟨_, rfl, shape_cast (b := 0x28#8) rfl rfl (.stack mem_plp 4 (by decide))⟩
  | .andImm nn => ⟨_, rfl, shape_cast (b := 0x29#8) rfl rfl (.read mem_and 2 (by decide) false (.imm nn))⟩
  | .rolAcc => ⟨_, rfl, shape_cast (b := 0x2A#8) rfl rfl (.acc mem_rol)⟩
  | .hole2B => ⟨_, rfl, shape_cast (b := 0x2B#8) rfl rfl (.register mem_hole 1 (by decide))⟩
  | .bitAbs w => ⟨_, rfl, shape_cast (b := 0x2C#8) rfl rfl (.read mem_bit 4 (by decide) false (.mem (.abs w)))⟩
  | .andAbs w => ⟨_, rfl, shape_cast (b := 0x2D#8) rfl rfl (.read mem_and 4 (by decide) false (.mem (.abs w)))⟩
  | .rolAbs w => ⟨_, rfl, shape_cast (b := 0x2E#8) rfl rfl (.rmw mem_rol 6 (by decide) (.abs w))⟩
  | .rlaAbs w => ⟨_, rfl, shape_cast (b := 0x2F#8) rfl rfl (.rmw mem_rla 6 (by decide) (.abs w))⟩
  | .bmi nn => ⟨_, rfl, shape_cast (b := 0x30#8) rfl rfl (.branch mem_bmi nn)⟩
  | .andIzy nn => ⟨_, rfl, shape_cast (b := 0x31#8) rfl rfl (.read mem_and 5 (by decide) true (.mem (.izy nn)))⟩
  | .hole32 => ⟨_, rfl, shape_cast (b := 0x32#8) rfl rfl (.register mem_hole 1 (by decide))⟩
  | .rlaIzy nn => ⟨_, rfl, shape_cast (b := 0x33#8) rfl rfl (.rmw mem_rla 8 (by decide) (.izy nn))⟩
  | .hole34 => ⟨_, rfl, shape_cast (b := 0x34#8) rfl rfl (.register mem_hole 1 (by decide))⟩
  | .andZpx nn => ⟨_, rfl, shape_cast (b := 0x35#8) rfl rfl (.read mem_and 4 (by decide) false (.mem (.zpx nn)))⟩
  | .rolZpx nn => ⟨_, rfl, shape_cast (b := 0x36#8) rfl rfl (.rmw mem_rol 6 (by decide) (.zpx nn))⟩
  | .rlaZpx nn => ⟨_, rfl, shape_cast (b := 0x37#8) rfl rfl (.rmw mem_rla 6 (by decide) (.zpx nn))⟩
  | .sec => ⟨_, rfl, shape_cast (b := 0x38#8) rfl rfl (.register mem_sec 2 (by decide))⟩
  | .andAby w => ⟨_, rfl, shape_cast (b := 0x39#8) rfl rfl (.read mem_and 4 (by decide) true (.mem (.aby w)))⟩
  | .hole3A => ⟨_, rfl, shape_cast (b := 0x3A#8) rfl rfl (.register mem_hole 1 (by decide))⟩
  | .rlaAby w => ⟨_, rfl, shape_cast (b := 0x3B#8) rfl rfl (.rmw mem_rla 7 (by decide) (.aby w))⟩
  | .hole3C => ⟨_, rfl, shape_cast (b := 0x3C#8) rfl rfl (.register mem_hole 1 (by decide))⟩
  | .andAbx w => ⟨_, rfl, shape_cast (b := 0x3D#8) rfl rfl (.read mem_and 4 (by decide) true (.mem (.abx w)))⟩
  | .rolAbx w => ⟨_, rfl, shape_cast (b := 0x3E#8) rfl rfl (.rmw mem_rol 7 (by decide) (.abx w))⟩
  | .rlaAbx w => ⟨_, rfl, shape_cast (b := 0x3F#8) rfl rfl (.rmw mem_rla 7 (by decide) (.abx w))⟩
  | .rti => ⟨_, rfl, shape_cast (b := 0x40#8) rfl rfl (.stack mem_rti 6 (by decide))⟩
  | .eorIzx nn => ⟨_, rfl, shape_cast (b := 0x41#8) rfl rfl (.read mem_eor 6 (by decide) false (.mem (.izx nn)))⟩
  | .hole42 => ⟨_, rfl, shape_cast (b := 0x42#8) rfl rfl (.register mem_hole 1 (by decide))⟩
  | .sreIzx nn => ⟨_, rfl, shape_cast (b := 0x43#8) rfl rfl (.rmw mem_sre 8 (by decide) (.izx nn))⟩
  | .hole44 => ⟨_, rfl, shape_cast (b := 0x44#8) rfl rfl (.register mem_hole 1 (by decide))⟩
  | .eorZp nn => ⟨_, rfl, shape_cast (b := 0x45#8) rfl rfl (.read mem_eor 3 (by decide) false (.mem (.zp nn)))⟩
  | .lsrZp nn => ⟨_, rfl, shape_cast (b := 0x46#8) rfl rfl (.rmw mem_lsr 5 (by decide) (.zp nn))⟩
  | .sreZp nn => ⟨_, rfl, shape_cast (b := 0x47#8) rfl rfl (.rmw mem_sre 5 (by decide) (.zp nn))⟩
  | .pha => ⟨_, rfl, shape_cast (b := 0x48#8) rfl rfl (.stack mem_pha 3 (by decide))⟩
  | .eorImm nn => ⟨_, rfl, shape_cast (b := 0x49#8) rfl rfl (.read mem_eor 2 (by decide) false (.imm nn))⟩
  | .lsrAcc => ⟨_, rfl, shape_cast (b := 0x4A#8) rfl rfl (.acc mem_lsr)⟩
  | .hole4B => ⟨_, rfl, shape_cast (b := 0x4B#8) rfl rfl (.register mem_hole 1 (by decide))⟩
  | .jmpAbs w => ⟨_, rfl, shape_cast (b := 0x4C#8) rfl rfl (.jump w)⟩
  | .eorAbs w => ⟨_, rfl, shape_cast (b := 0x4D#8) rfl rfl (.read mem_eor 4 (by decide) false (.mem (.abs w)))⟩
  | .lsrAbs w => ⟨_, rfl, shape_cast (b := 0x4E#8) rfl rfl (.rmw mem_lsr 6 (by decide) (.abs w))⟩
  | .sreAbs w => ⟨_, rfl, shape_cast (b := 0x4F#8) rfl rfl (.rmw mem_sre 6 (by decide) (.abs w))⟩
  | .bvc nn => ⟨_, rfl, shape_cast (b := 0x50#8) rfl rfl (.branch mem_bvc nn)⟩
  | .eorIzy nn => ⟨_, rfl, shape_cast (b := 0x51#8) rfl rfl (.read mem_eor 5 (by decide) true (.mem (.izy nn)))⟩
  | .hole52 => ⟨_, rfl, shape_cast (b := 0x52#8) rfl rfl (.register mem_hole 1 (by decide))⟩
  | .sreIzy nn => ⟨_, rfl, shape_cast (b := 0x53#8) rfl rfl (.rmw mem_sre 8 (by decide) (.izy nn))⟩
  | .hole54 => ⟨_, rfl, shape_cast (b := 0x54#8) rfl rfl (.register mem_hole 1 (by decide))⟩
  | .eorZpx nn => ⟨_, rfl, shape_cast (b := 0x55#8) rfl rfl (.read mem_eor 4 (by decide) false (.mem (.zpx nn)))⟩
  | .lsrZpx nn => ⟨_, rfl, shape_cast (b := 0x56#8) rfl rfl (.rmw mem_lsr 6 (by decide) (.zpx nn))⟩
  | .sreZpx nn => ⟨_, rfl, shape_cast (b := 0x57#8) rfl rfl (.rmw mem_sre 6 (by decide) (.zpx nn))⟩
  | .cli => ⟨_, rfl, shape_cast (b := 0x58#8) rfl rfl (.register mem_cli 2 (by decide))⟩
  | .eorAby w => ⟨_, rfl, shape_cast (b := 0x59#8) rfl rfl (.read mem_eor 4 (by decide) true (.mem (.aby w)))⟩
  | .hole5A => ⟨_, rfl, shape_cast (b := 0x5A#8) rfl rfl (.register mem_hole 1 (by decide))⟩
  | .sreAby w => ⟨_, rfl, shape_cast (b := 0x5B#8) rfl rfl (.rmw mem_sre 7 (by decide) (.aby w))⟩
  | .hole5C => ⟨_, rfl, shape_cast (b := 0x5C#8) rfl rfl (.register mem_hole 1 (by decide))⟩
  | .eorAbx w => ⟨_, rfl, shape_cast (b := 0x5D#8) rfl rfl (.read mem_eor 4 (by decide) true (.mem (.abx w)))⟩
  | .lsrAbx w => ⟨_, rfl, shape_cast (b := 0x5E#8) rfl rfl (.rmw mem_lsr 7 (by decide) (.abx w))⟩
  | .sreAbx w => ⟨_, rfl, shape_cast (b := 0x5F#8) rfl rfl (.rmw mem_sre 7 (by decide) (.abx w))⟩
  | .rts => ⟨_, rfl, shape_cast (b := 0x60#8) rfl rfl (.stack mem_rts 6 (by decide))⟩
  | .adcIzx nn => ⟨_, rfl, shape_cast (b := 0x61#8) rfl rfl (.read mem_adc 6 (by decide) false (.mem (.izx nn)))⟩
  | .hole62 => ⟨_, rfl, shape_cast (b := 0x62#8) rfl rfl (.register mem_hole 1 (by decide))⟩
  | .rraIzx nn => ⟨_, rfl, shape_cast (b := 0x63#8) rfl rfl (.rmw mem_rra 8 (by decide) (.izx nn))⟩
  | .hole64 => ⟨_, rfl, shape_cast (b := 0x64#8) rfl rfl (.register mem_hole 1 (by decide))⟩
  | .adcZp nn => ⟨_, rfl, shape_cast (b := 0x65#8) rfl rfl (.read mem_adc 3 (by decide) false (.mem (.zp nn)))⟩
  | .rorZp nn => ⟨_, rfl, shape_cast (b := 0x66#8) rfl rfl (.rmw mem_ror 5 (by decide) (.zp nn))⟩
  | .rraZp nn => ⟨_, rfl, shape_cast (b := 0x67#8) rfl rfl (.rmw mem_rra 5 (by decide) (.zp nn))⟩
  | .pla => ⟨_, rfl, shape_cast (b := 0x68#8) rfl rfl (.stack mem_pla 4 (by decide))⟩
  | .adcImm nn => ⟨_, rfl, shape_cast (b := 0x69#8) rfl rfl (.read mem_adc 2 (by decide) false (.imm nn))⟩
  | .rorAcc => ⟨_, rfl, shape_cast (b := 0x6A#8) rfl rfl (.acc mem_ror)⟩
  | .hole6B => ⟨_, rfl, shape_cast (b := 0x6B#8) rfl rfl (.register mem_hole 1 (by decide))⟩
  | .jmpInd w => ⟨_, rfl, shape_cast (b := 0x6C#8) rfl rfl (.jumpIndirect w)⟩
  | .adcAbs w => ⟨_, rfl, shape_cast (b := 0x6D#8) rfl rfl (.read mem_adc 4 (by decide) false (.mem (.abs w)))⟩
  | .rorAbs w => ⟨_, rfl, shape_cast (b := 0x6E#8) rfl rfl (.rmw mem_ror 6 (by decide) (.abs w))⟩
  | .rraAbs w => ⟨_, rfl, shape_cast (b := 0x6F#8) rfl rfl (.rmw mem_rra 6 (by decide) (.abs w))⟩
  | .bvs nn => ⟨_, rfl, shape_cast (b := 0x70#8) rfl rfl (.branch mem_bvs nn)⟩
  | .adcIzy nn => ⟨_, rfl, shape_cast (b := 0x71#8) rfl rfl (.read mem_adc 5 (by decide) true (.mem (.izy nn)))⟩
  | .hole72 => ⟨_, rfl, shape_cast (b := 0x72#8) rfl rfl (.register mem_hole 1 (by decide))⟩
  | .rraIzy nn => ⟨_, rfl, shape_cast (b := 0x73#8) rfl rfl (.rmw mem_rra 8 (by decide) (.izy nn))⟩
  | .hole74 => ⟨_, rfl, shape_cast (b := 0x74#8) rfl rfl (.register mem_hole 1 (by decide))⟩
  | .adcZpx nn => ⟨_, rfl, shape_cast (b := 0x75#8) rfl rfl (.read mem_adc 4 (by decide) false (.mem (.zpx nn)))⟩
  | .rorZpx nn => ⟨_, rfl, shape_cast (b := 0x76#8) rfl rfl (.rmw mem_ror 6 (by decide) (.zpx nn))⟩
  | .rraZpx nn => ⟨_, rfl, shape_cast (b := 0x77#8) rfl rfl (.rmw mem_rra 6 (by decide) (.zpx nn))⟩
  | .sei => ⟨_, rfl, shape_cast (b := 0x78#8) rfl rfl (.register mem_sei 2 (by decide))⟩
  | .adcAby w => ⟨_, rfl, shape_cast (b := 0x79#8) rfl rfl (.read mem_adc 4 (by decide) true (.mem (.aby w)))⟩
  | .hole7A => ⟨_, rfl, shape_cast (b := 0x7A#8) rfl rfl (.register mem_hole 1 (by decide))⟩
  | .rraAby w => ⟨_, rfl, shape_cast (b := 0x7B#8) rfl rfl (.rmw mem_rra 7 (by decide) (.aby w))⟩
  | .hole7C => ⟨_, rfl, shape_cast (b := 0x7C#8) rfl rfl (.register mem_hole 1 (by decide))⟩
  | .adcAbx w => ⟨_, rfl, shape_cast (b := 0x7D#8) rfl rfl (.read mem_adc 4 (by decide) true (.mem (.abx w)))⟩
  | .rorAbx w => ⟨_, rfl, shape_cast (b := 0x7E#8) rfl rfl (.rmw mem_ror 7 (by decide) (.abx w))⟩
  | .rraAbx w => ⟨_, rfl, shape_cast (b := 0x7F#8) rfl rfl (.rmw mem_rra 7 (by decide) (.abx w))⟩
  | .hole80 => ⟨_, rfl, shape_cast (b := 0x80#8) rfl rfl (.register mem_hole 1 (by decide))⟩
  | .staIzx nn => ⟨_, rfl, shape_cast (b := 0x81#8) rfl rfl (.write mem_sta 6 (by decide) (.izx nn))⟩
  | .hole82 => ⟨_, rfl, shape_cast (b := 0x82#8) rfl rfl (.register mem_hole 1 (by decide))⟩
  | .saxIzx nn => ⟨_, rfl, shape_cast (b := 0x83#8) rfl rfl (.write mem_sax 6 (by decide) (.izx nn))⟩
  | .styZp nn => ⟨_, rfl, shape_cast (b := 0x84#8) rfl rfl (.write mem_sty 3 (by decide) (.zp nn))⟩
  | .staZp nn => ⟨_, rfl, shape_cast (b := 0x85#8) rfl rfl (.write mem_sta 3 (by decide) (.zp nn))⟩
  | .stxZp nn => ⟨_, rfl, shape_cast (b := 0x86#8) rfl rfl (.write mem_stx 3 (by decide) (.zp nn))⟩
  | .saxZp nn => ⟨_, rfl, shape_cast (b := 0x87#8) rfl rfl (.write mem_sax 3 (by decide) (.zp nn))⟩
  | .dey => ⟨_, rfl, shape_cast (b := 0x88#8) rfl rfl (.register mem_dey 2 (by decide))⟩
  | .hole89 => ⟨_, rfl, shape_cast (b := 0x89#8) rfl rfl (.register mem_hole 1 (by decide))⟩
  | .txa => ⟨_, rfl, shape_cast (b := 0x8A#8) rfl rfl (.register mem_txa 2 (by decide))⟩
  | .hole8B => ⟨_, rfl, shape_cast (b := 0x8B#8) rfl rfl (.register mem_hole 1 (by decide))⟩
  | .styAbs w => ⟨_, rfl, shape_cast (b := 0x8C#8) rfl rfl (.write mem_sty 4 (by decide) (.abs w))⟩
  | .staAbs w => ⟨_, rfl, shape_cast (b := 0x8D#8) rfl rfl (.write mem_sta 4 (by decide) (.abs w))⟩
  | .stxAbs w => ⟨_, rfl, shape_cast (b := 0x8E#8) rfl rfl (.write mem_stx 4 (by decide) (.abs w))⟩
  | .saxAbs w => ⟨_, rfl, shape_cast (b := 0x8F#8) rfl rfl (.write mem_sax 4 (by decide) (.abs w))⟩
  | .bcc nn => ⟨_, rfl, shape_cast (b := 0x90#8) rfl rfl (.branch mem_bcc nn)⟩
  | .staIzy nn => ⟨_, rfl, shape_cast (b := 0x91#8) rfl rfl (.write mem_sta 6 (by decide) (.izy nn))⟩
  | .hole92 => ⟨_, rfl, shape_cast (b := 0x92#8) rfl rfl (.register mem_hole 1 (by decide))⟩
  | .hole93 => ⟨_, rfl, shape_cast (b := 0x93#8) rfl rfl (.register mem_hole 1 (by decide))⟩
  | .styZpx nn => ⟨_, rfl, shape_cast (b := 0x94#8) rfl rfl (.write mem_sty 4 (by decide) (.zpx nn))⟩
  | .staZpx nn => ⟨_, rfl, shape_cast (b := 0x95#8) rfl rfl (.write mem_sta 4 (by decide) (.zpx nn))⟩
  | .stxZpy nn => ⟨_, rfl, shape_cast (b := 0x96#8) rfl rfl (.write mem_stx 4 (by decide) (.zpy nn))⟩
  | .saxZpy nn => ⟨_, rfl, shape_cast (b := 0x97#8) rfl rfl (.write mem_sax 4 (by decide) (.zpy nn))⟩
  | .tya => ⟨_, rfl, shape_cast (b := 0x98#8) rfl rfl (.register mem_tya 2 (by decide))⟩
  | .staAby w => ⟨_, rfl, shape_cast (b := 0x99#8) rfl rfl (.write mem_sta 5 (by decide) (.aby w))⟩
  | .txs => ⟨_, rfl, shape_cast (b := 0x9A#8) rfl rfl (.register mem_txs 2 (by decide))⟩
  | .hole9B => ⟨_, rfl, shape_cast (b := 0x9B#8) rfl rfl (.register mem_hole 1 (by decide))⟩
  | .hole9C => ⟨_, rfl, shape_cast (b := 0x9C#8) rfl rfl (.register mem_hole 1 (by decide))⟩
  | .staAbx w => ⟨_, rfl, shape_cast (b := 0x9D#8) rfl rfl (.write mem_sta 5 (by decide) (.abx w))⟩
  | .hole9E => ⟨_, rfl, shape_cast (b := 0x9E#8) rfl rfl (.register mem_hole 1 (by decide))⟩
  | .hole9F => ⟨_, rfl, shape_cast (b := 0x9F#8) rfl rfl (.register mem_hole 1 (by decide))⟩
  | .ldyImm nn => ⟨_, rfl, shape_cast (b := 0xA0#8) rfl rfl (.read mem_ldy 2 (by decide) false (.imm nn))⟩
  | .ldaIzx nn => ⟨_, rfl, shape_cast (b := 0xA1#8) rfl rfl (.read mem_lda 6 (by decide) false (.mem (.izx nn)))⟩
  | .ldxImm nn => ⟨_, rfl, shape_cast (b := 0xA2#8) rfl rfl (.read mem_ldx 2 (by decide) false (.imm nn))⟩
  | .laxIzx nn => ⟨_, rfl, shape_cast (b := 0xA3#8) rfl rfl (.read mem_lax 6 (by decide) false (.mem (.izx nn)))⟩
  | .ldyZp nn => ⟨_, rfl, shape_cast (b := 0xA4#8) rfl rfl (.read mem_ldy 3 (by decide) false (.mem (.zp nn)))⟩
  | .ldaZp nn => ⟨_, rfl, shape_cast (b := 0xA5#8) rfl rfl (.read mem_lda 3 (by decide) false (.mem (.zp nn)))⟩
  | .ldxZp nn => ⟨_, rfl, shape_cast (b := 0xA6#8) rfl rfl (.read mem_ldx 3 (by decide) false (.mem (.zp nn)))⟩
  | .laxZp nn => ⟨_, rfl, shape_cast (b := 0xA7#8) rfl rfl (.read mem_lax 3 (by decide) false (.mem (.zp nn)))⟩
  | .tay => ⟨_, rfl, shape_cast (b := 0xA8#8) rfl rfl (.register mem_tay 2 (by decide))⟩
  | .ldaImm nn => ⟨_, rfl, shape_cast (b := 0xA9#8) rfl rfl (.read mem_lda 2 (by decide) false (.imm nn))⟩
  | .tax => ⟨_, rfl, shape_cast (b := 0xAA#8) rfl rfl (.register mem_tax 2 (by decide))⟩
  | .holeAB => ⟨_, rfl, shape_cast (b := 0xAB#8) rfl rfl (.register mem_hole 1 (by decide))⟩
  | .ldyAbs w => ⟨_, rfl, shape_cast (b := 0xAC#8) rfl rfl (.read mem_ldy 4 (by decide) false (.mem (.abs w)))⟩
  | .ldaAbs w => ⟨_, rfl, shape_cast (b := 0xAD#8) rfl rfl (.read mem_lda 4 (by decide) false (.mem (.abs w)))⟩
  | .ldxAbs w => ⟨_, rfl, shape_cast (b := 0xAE#8) rfl rfl (.read mem_ldx 4 (by decide) false (.mem (.abs w)))⟩
  | .laxAbs w => ⟨_, rfl, shape_cast (b := 0xAF#8) rfl rfl (.read mem_lax 4 (by decide) false (.mem (.abs w)))⟩
  | .bcs nn => ⟨_, rfl, shape_cast (b := 0xB0#8) rfl rfl (.branch mem_bcs nn)⟩
  | .ldaIzy nn => ⟨_, rfl, shape_cast (b := 0xB1#8) rfl rfl (.read mem_lda 5 (by decide) true (.mem (.izy nn)))⟩
  | .holeB2 => ⟨_, rfl, shape_cast (b := 0xB2#8) rfl rfl (.register mem_hole 1 (by decide))⟩
  | .laxIzy nn => ⟨_, rfl, shape_cast (b := 0xB3#8) rfl rfl (.read mem_lax 5 (by decide) true (.mem (.izy nn)))⟩
  | .ldyZpx nn => ⟨_, rfl, shape_cast (b := 0xB4#8) rfl rfl (.read mem_ldy 4 (by decide) false (.mem (.zpx nn)))⟩
  | .ldaZpx nn => ⟨_, rfl, shape_cast (b := 0xB5#8) rfl rfl (.read mem_lda 4 (by decide) false (.mem (.zpx nn)))⟩
  | .ldxZpy nn => ⟨_, rfl, shape_cast (b := 0xB6#8) rfl rfl (.read mem_ldx 4 (by decide) false (.mem (.zpy nn)))⟩
  | .laxZpy nn => ⟨_, rfl, shape_cast (b := 0xB7#8) rfl rfl (.read mem_lax 4 (by decide) false (.mem (.zpy nn)))⟩
  | .clv => ⟨_, rfl, shape_cast (b := 0xB8#8) rfl rfl (.register mem_clv 2 (by decide))⟩
  | .ldaAby w => ⟨_, rfl, shape_cast (b := 0xB9#8) rfl rfl (.read mem_lda 4 (by decide) true (.mem (.aby w)))⟩
  | .tsx => ⟨_, rfl, shape_cast (b := 0xBA#8) rfl rfl (.register mem_tsx 2 (by decide))⟩
  | .holeBB => ⟨_, rfl, shape_cast (b := 0xBB#8) rfl rfl (.register mem_hole 1 (by decide))⟩
  | .ldyAbx w => ⟨_, rfl, shape_cast (b := 0xBC#8) rfl rfl (.read mem_ldy 4 (by decide) true (.mem (.abx w)))⟩
  | .ldaAbx w => ⟨_, rfl, shape_cast (b := 0xBD#8) rfl rfl (.read mem_lda 4 (by decide) true (.mem (.abx w)))⟩
  | .ldxAby w => ⟨_, rfl, shape_cast (b := 0xBE#8) rfl rfl (.read mem_ldx 4 (by decide) true (.mem (.aby w)))⟩
  | .laxAby w => ⟨_, rfl, shape_cast (b := 0xBF#8) rfl rfl (.read mem_lax 4 (by decide) true (.mem (.aby w)))⟩
  | .cpyImm nn => ⟨_, rfl, shape_cast (b := 0xC0#8) rfl rfl (.read mem_cpy 2 (by decide) false (.imm nn))⟩
  | .cmpIzx nn => ⟨_, rfl, shape_cast (b := 0xC1#8) rfl rfl (.read mem_cmp 6 (by decide) false (.mem (.izx nn)))⟩
  | .holeC2 => ⟨_, rfl, shape_cast (b := 0xC2#8) rfl rfl (.register mem_hole 1 (by decide))⟩
  | .dcpIzx nn => ⟨_, rfl, shape_cast (b := 0xC3#8) rfl rfl (.rmw mem_dcp 8 (by decide) (.izx nn))⟩
  | .cpyZp nn => ⟨_, rfl, shape_cast (b := 0xC4#8) rfl rfl (.read mem_cpy 3 (by decide) false (.mem (.zp nn)))⟩
  | .cmpZp nn => ⟨_, rfl, shape_cast (b := 0xC5#8) rfl rfl (.read mem_cmp 3 (by decide) false (.mem (.zp nn)))⟩
  | .decZp nn => ⟨_, rfl, shape_cast (b := 0xC6#8) rfl rfl (.rmw mem_dec 5 (by decide) (.zp nn))⟩
  | .dcpZp nn => ⟨_, rfl, shape_cast (b := 0xC7#8) rfl rfl (.rmw mem_dcp 5 (by decide) (.zp nn))⟩
  | .iny => ⟨_, rfl, shape_cast (b := 0xC8#8) rfl rfl (.register mem_iny 2 (by decide))⟩
  | .cmpImm nn => ⟨_, rfl, shape_cast (b := 0xC9#8) rfl rfl (.read mem_cmp 2 (by decide) false (.imm nn))⟩
  | .dex => ⟨_, rfl, shape_cast (b := 0xCA#8) rfl rfl (.register mem_dex 2 (by decide))⟩
  | .holeCB => ⟨_, rfl, shape_cast (b := 0xCB#8) rfl rfl (.register mem_hole 1 (by decide))⟩
  | .cpyAbs w => ⟨_, rfl, shape_cast (b := 0xCC#8) rfl rfl (.read mem_cpy 4 (by decide) false (.mem (.abs w)))⟩
  | .cmpAbs w => ⟨_, rfl, shape_cast (b := 0xCD#8) rfl rfl (.read mem_cmp 4 (by decide) false (.mem (.abs w)))⟩
  | .decAbs w => ⟨_, rfl, shape_cast (b := 0xCE#8) rfl rfl (.rmw mem_dec 6 (by decide) (.abs w))⟩
  | .dcpAbs w => ⟨_, rfl, shape_cast (b := 0xCF#8) rfl rfl (.rmw mem_dcp 6 (by decide) (.abs w))⟩
  | .bne nn => ⟨_, rfl, shape_cast (b := 0xD0#8) rfl rfl (.branch mem_bne nn)⟩
  | .cmpIzy nn => ⟨_, rfl, shape_cast (b := 0xD1#8) rfl rfl (.read mem_cmp 5 (by decide) true (.mem (.izy nn)))⟩
  | .holeD2 => ⟨_, rfl, shape_cast (b := 0xD2#8) rfl rfl (.register mem_hole 1 (by decide))⟩
  | .dcpIzy nn => ⟨_, rfl, shape_cast (b := 0xD3#8) rfl rfl (.rmw mem_dcp 8 (by decide) (.izy nn))⟩
  | .holeD4 => ⟨_, rfl, shape_cast (b := 0xD4#8) rfl rfl (.register mem_hole 1 (by decide))⟩
  | .cmpZpx nn => ⟨_, rfl, shape_cast (b := 0xD5#8) rfl rfl (.read mem_cmp 4 (by decide) false (.mem (.zpx nn)))⟩
  | .decZpx nn => ⟨_, rfl, shape_cast (b := 0xD6#8) rfl rfl (.rmw mem_dec 6 (by decide) (.zpx nn))⟩
  | .dcpZpx nn => ⟨_, rfl, shape_cast (b := 0xD7#8) rfl rfl (.rmw mem_dcp 6 (by decide) (.zpx nn))⟩
  | .cld => ⟨_, rfl, shape_cast (b := 0xD8#8) rfl rfl (.register mem_cld 2 (by decide))⟩
  | .cmpAby w => ⟨_, rfl, shape_cast (b := 0xD9#8) rfl rfl (.read mem_cmp 4 (by decide) true (.mem (.aby w)))⟩
  | .holeDA => ⟨_, rfl, shape_cast (b := 0xDA#8) rfl rfl (.register mem_hole 1 (by decide))⟩
  | .dcpAby w => ⟨_, rfl, shape_cast (b := 0xDB#8) rfl rfl (.rmw mem_dcp 7 (by decide) (.aby w))⟩
  | .holeDC => ⟨_, rfl, shape_cast (b := 0xDC#8) rfl rfl (.register mem_hole 1 (by decide))⟩
  | .cmpAbx w => ⟨_, rfl, shape_cast (b := 0xDD#8) rfl rfl (.read mem_cmp 4 (by decide) true (.mem (.abx w)))⟩
  | .decAbx w => ⟨_, rfl, shape_cast (b := 0xDE#8) rfl rfl (.rmw mem_dec 7 (by decide) (.abx w))⟩
  | .dcpAbx w => ⟨_, rfl, shape_cast (b := 0xDF#8) rfl rfl (.rmw mem_dcp 7 (by decide) (.abx w))⟩
  | .cpxImm nn => ⟨_, rfl, shape_cast (b := 0xE0#8) rfl rfl (.read mem_cpx 2 (by decide) false (.imm nn))⟩
  | .sbcIzx nn => ⟨_, rfl, shape_cast (b := 0xE1#8) rfl rfl (.read mem_sbc 6 (by decide) false (.mem (.izx nn)))⟩
  | .holeE2 => ⟨_, rfl, shape_cast (b := 0xE2#8) rfl rfl (.register mem_hole 1 (by decide))⟩
  | .isbIzx nn => ⟨_, rfl, shape_cast (b := 0xE3#8) rfl rfl (.rmw mem_isb 8 (by decide) (.izx nn))⟩
  | .cpxZp nn => ⟨_, rfl, shape_cast (b := 0xE4#8) rfl rfl (.read mem_cpx 3 (by decide) false (.mem (.zp nn)))⟩
  | .sbcZp nn => ⟨_, rfl, shape_cast (b := 0xE5#8) rfl rfl (.read mem_sbc 3 (by decide) false (.mem (.zp nn)))⟩
  | .incZp nn => ⟨_, rfl, shape_cast (b := 0xE6#8) rfl rfl (.rmw mem_inc 5 (by decide) (.zp nn))⟩
  | .isbZp nn => ⟨_, rfl, shape_cast (b := 0xE7#8) rfl rfl (.rmw mem_isb 5 (by decide) (.zp nn))⟩
  | .inx => ⟨_, rfl, shape_cast (b := 0xE8#8) rfl rfl (.register mem_inx 2 (by decide))⟩
  | .sbcImm nn => ⟨_, rfl, shape_cast (b := 0xE9#8) rfl rfl (.read mem_sbc 2 (by decide) false (.imm nn))⟩
  | .nop => ⟨_, rfl, shape_cast (b := 0xEA#8) rfl rfl (.register mem_nop 2 (by decide))⟩
  | .holeEB => ⟨_, rfl, shape_cast (b := 0xEB#8) rfl rfl (.register mem_hole 1 (by decide))⟩
  | .cpxAbs w => ⟨_, rfl, shape_cast (b := 0xEC#8) rfl rfl (.read mem_cpx 4 (by decide) false (.mem (.abs w)))⟩
  | .sbcAbs w => ⟨_, rfl, shape_cast (b := 0xED#8) rfl rfl (.read mem_sbc 4 (by decide) false (.mem (.abs w)))⟩
  | .incAbs w => ⟨_, rfl, shape_cast (b := 0xEE#8) rfl rfl (.rmw mem_inc 6 (by decide) (.abs w))⟩
  | .isbAbs w => ⟨_, rfl, shape_cast (b := 0xEF#8) rfl rfl (.rmw mem_isb 6 (by decide) (.abs w))⟩
  | .beq nn => ⟨_, rfl, shape_cast (b := 0xF0#8) rfl rfl (.branch mem_beq nn)⟩
  | .sbcIzy nn => ⟨_, rfl, shape_cast (b := 0xF1#8) rfl rfl (.read mem_sbc 5 (by decide) true (.mem (.izy nn)))⟩
  | .holeF2 => ⟨_, rfl, shape_cast (b := 0xF2#8) rfl rfl (.register mem_hole 1 (by decide))⟩
  | .isbIzy nn => ⟨_, rfl, shape_cast (b := 0xF3#8) rfl rfl (.rmw mem_isb 8 (by decide) (.izy nn))⟩
  | .holeF4 => ⟨_, rfl, shape_cast (b := 0xF4#8) rfl rfl (.register mem_hole 1 (by decide))⟩
  | .sbcZpx nn => ⟨_, rfl, shape_cast (b := 0xF5#8) rfl rfl (.read mem_sbc 4 (by decide) false (.mem (.zpx nn)))⟩
  | .incZpx nn => ⟨_, rfl, shape_cast (b := 0xF6#8) rfl rfl (.rmw mem_inc 6 (by decide) (.zpx nn))⟩
  | .isbZpx nn => ⟨_, rfl, shape_cast (b := 0xF7#8) rfl rfl (.rmw mem_isb 6 (by decide) (.zpx nn))⟩
  | .sed => ⟨_, rfl, shape_cast (b := 0xF8#8) rfl rfl (.register mem_sed 2 (by decide))⟩
  | .sbcAby w => ⟨_, rfl, shape_cast (b := 0xF9#8) rfl rfl (.read mem_sbc 4 (by decide) true (.mem (.aby w)))⟩
  | .holeFA => ⟨_, rfl, shape_cast (b := 0xFA#8) rfl rfl (.register mem_hole 1 (by decide))⟩
  | .isbAby w => ⟨_, rfl, shape_cast (b := 0xFB#8) rfl rfl (.rmw mem_isb 7 (by decide) (.aby w))⟩
  | .holeFC => ⟨_, rfl, shape_cast (b := 0xFC#8) rfl rfl (.register mem_hole 1 (by decide))⟩
  | .sbcAbx w => ⟨_, rfl, shape_cast (b := 0xFD#8) rfl rfl (.read mem_sbc 4 (by decide) true (.mem (.abx w)))⟩
  | .incAbx w => ⟨_, rfl, shape_cast (b := 0xFE#8) rfl rfl (.rmw mem_inc 7 (by decide) (.abx w))⟩
  | .isbAbx w => ⟨_, rfl, shape_cast (b := 0xFF#8) rfl rfl (.rmw mem_isb 7 (by decide) (.abx w))⟩

end Sys2Proof.Machine
end

