-- ==== Sys2Proof/Laws/PerInstr.lean ====
section
/-! SUPPORT. The per-instruction family `EncodingShape`: an instruction's encoding is its opcode byte followed by as many operand bytes
as its addressing mode has (30_encoding.md R122), and its metadata row is the row of that opcode byte. -/

namespace Sys2Proof.Laws.EncodingShape

/-- The encoding is one opcode byte and the mode's operand bytes, and the metadata row is the opcode byte's. -/
def Statement (i : Instr) : Prop :=
  ∃ op operands, encode i = op :: operands ∧ i.row = opTable op ∧ operands.length + 1 = (opTable op).mode.length

theorem of_encode {i : Instr} {op : Byte} {operands : List Byte} (h : encode i = op :: operands)
    (hl : operands.length + 1 = (opTable op).mode.length) : Statement i :=
  ⟨op, operands, h, by simp [Instr.row, Instr.opcode, h], hl⟩

theorem brk : Statement (.brk) := of_encode (op := 0x00#8) rfl rfl
theorem oraIzx (nn : Byte) : Statement (.oraIzx nn) := of_encode (op := 0x01#8) rfl rfl
theorem hole02 : Statement (.hole02) := of_encode (op := 0x02#8) rfl rfl
theorem sloIzx (nn : Byte) : Statement (.sloIzx nn) := of_encode (op := 0x03#8) rfl rfl
theorem hole04 : Statement (.hole04) := of_encode (op := 0x04#8) rfl rfl
theorem oraZp (nn : Byte) : Statement (.oraZp nn) := of_encode (op := 0x05#8) rfl rfl
theorem aslZp (nn : Byte) : Statement (.aslZp nn) := of_encode (op := 0x06#8) rfl rfl
theorem sloZp (nn : Byte) : Statement (.sloZp nn) := of_encode (op := 0x07#8) rfl rfl
theorem php : Statement (.php) := of_encode (op := 0x08#8) rfl rfl
theorem oraImm (nn : Byte) : Statement (.oraImm nn) := of_encode (op := 0x09#8) rfl rfl
theorem aslAcc : Statement (.aslAcc) := of_encode (op := 0x0A#8) rfl rfl
theorem hole0B : Statement (.hole0B) := of_encode (op := 0x0B#8) rfl rfl
theorem hole0C : Statement (.hole0C) := of_encode (op := 0x0C#8) rfl rfl
theorem oraAbs (w : Addr) : Statement (.oraAbs w) := of_encode (op := 0x0D#8) rfl rfl
theorem aslAbs (w : Addr) : Statement (.aslAbs w) := of_encode (op := 0x0E#8) rfl rfl
theorem sloAbs (w : Addr) : Statement (.sloAbs w) := of_encode (op := 0x0F#8) rfl rfl
theorem bpl (nn : Byte) : Statement (.bpl nn) := of_encode (op := 0x10#8) rfl rfl
theorem oraIzy (nn : Byte) : Statement (.oraIzy nn) := of_encode (op := 0x11#8) rfl rfl
theorem hole12 : Statement (.hole12) := of_encode (op := 0x12#8) rfl rfl
theorem sloIzy (nn : Byte) : Statement (.sloIzy nn) := of_encode (op := 0x13#8) rfl rfl
theorem hole14 : Statement (.hole14) := of_encode (op := 0x14#8) rfl rfl
theorem oraZpx (nn : Byte) : Statement (.oraZpx nn) := of_encode (op := 0x15#8) rfl rfl
theorem aslZpx (nn : Byte) : Statement (.aslZpx nn) := of_encode (op := 0x16#8) rfl rfl
theorem sloZpx (nn : Byte) : Statement (.sloZpx nn) := of_encode (op := 0x17#8) rfl rfl
theorem clc : Statement (.clc) := of_encode (op := 0x18#8) rfl rfl
theorem oraAby (w : Addr) : Statement (.oraAby w) := of_encode (op := 0x19#8) rfl rfl
theorem hole1A : Statement (.hole1A) := of_encode (op := 0x1A#8) rfl rfl
theorem sloAby (w : Addr) : Statement (.sloAby w) := of_encode (op := 0x1B#8) rfl rfl
theorem hole1C : Statement (.hole1C) := of_encode (op := 0x1C#8) rfl rfl
theorem oraAbx (w : Addr) : Statement (.oraAbx w) := of_encode (op := 0x1D#8) rfl rfl
theorem aslAbx (w : Addr) : Statement (.aslAbx w) := of_encode (op := 0x1E#8) rfl rfl
theorem sloAbx (w : Addr) : Statement (.sloAbx w) := of_encode (op := 0x1F#8) rfl rfl
theorem jsr (w : Addr) : Statement (.jsr w) := of_encode (op := 0x20#8) rfl rfl
theorem andIzx (nn : Byte) : Statement (.andIzx nn) := of_encode (op := 0x21#8) rfl rfl
theorem hole22 : Statement (.hole22) := of_encode (op := 0x22#8) rfl rfl
theorem rlaIzx (nn : Byte) : Statement (.rlaIzx nn) := of_encode (op := 0x23#8) rfl rfl
theorem bitZp (nn : Byte) : Statement (.bitZp nn) := of_encode (op := 0x24#8) rfl rfl
theorem andZp (nn : Byte) : Statement (.andZp nn) := of_encode (op := 0x25#8) rfl rfl
theorem rolZp (nn : Byte) : Statement (.rolZp nn) := of_encode (op := 0x26#8) rfl rfl
theorem rlaZp (nn : Byte) : Statement (.rlaZp nn) := of_encode (op := 0x27#8) rfl rfl
theorem plp : Statement (.plp) := of_encode (op := 0x28#8) rfl rfl
theorem andImm (nn : Byte) : Statement (.andImm nn) := of_encode (op := 0x29#8) rfl rfl
theorem rolAcc : Statement (.rolAcc) := of_encode (op := 0x2A#8) rfl rfl
theorem hole2B : Statement (.hole2B) := of_encode (op := 0x2B#8) rfl rfl
theorem bitAbs (w : Addr) : Statement (.bitAbs w) := of_encode (op := 0x2C#8) rfl rfl
theorem andAbs (w : Addr) : Statement (.andAbs w) := of_encode (op := 0x2D#8) rfl rfl
theorem rolAbs (w : Addr) : Statement (.rolAbs w) := of_encode (op := 0x2E#8) rfl rfl
theorem rlaAbs (w : Addr) : Statement (.rlaAbs w) := of_encode (op := 0x2F#8) rfl rfl
theorem bmi (nn : Byte) : Statement (.bmi nn) := of_encode (op := 0x30#8) rfl rfl
theorem andIzy (nn : Byte) : Statement (.andIzy nn) := of_encode (op := 0x31#8) rfl rfl
theorem hole32 : Statement (.hole32) := of_encode (op := 0x32#8) rfl rfl
theorem rlaIzy (nn : Byte) : Statement (.rlaIzy nn) := of_encode (op := 0x33#8) rfl rfl
theorem hole34 : Statement (.hole34) := of_encode (op := 0x34#8) rfl rfl
theorem andZpx (nn : Byte) : Statement (.andZpx nn) := of_encode (op := 0x35#8) rfl rfl
theorem rolZpx (nn : Byte) : Statement (.rolZpx nn) := of_encode (op := 0x36#8) rfl rfl
theorem rlaZpx (nn : Byte) : Statement (.rlaZpx nn) := of_encode (op := 0x37#8) rfl rfl
theorem sec : Statement (.sec) := of_encode (op := 0x38#8) rfl rfl
theorem andAby (w : Addr) : Statement (.andAby w) := of_encode (op := 0x39#8) rfl rfl
theorem hole3A : Statement (.hole3A) := of_encode (op := 0x3A#8) rfl rfl
theorem rlaAby (w : Addr) : Statement (.rlaAby w) := of_encode (op := 0x3B#8) rfl rfl
theorem hole3C : Statement (.hole3C) := of_encode (op := 0x3C#8) rfl rfl
theorem andAbx (w : Addr) : Statement (.andAbx w) := of_encode (op := 0x3D#8) rfl rfl
theorem rolAbx (w : Addr) : Statement (.rolAbx w) := of_encode (op := 0x3E#8) rfl rfl
theorem rlaAbx (w : Addr) : Statement (.rlaAbx w) := of_encode (op := 0x3F#8) rfl rfl
theorem rti : Statement (.rti) := of_encode (op := 0x40#8) rfl rfl
theorem eorIzx (nn : Byte) : Statement (.eorIzx nn) := of_encode (op := 0x41#8) rfl rfl
theorem hole42 : Statement (.hole42) := of_encode (op := 0x42#8) rfl rfl
theorem sreIzx (nn : Byte) : Statement (.sreIzx nn) := of_encode (op := 0x43#8) rfl rfl
theorem hole44 : Statement (.hole44) := of_encode (op := 0x44#8) rfl rfl
theorem eorZp (nn : Byte) : Statement (.eorZp nn) := of_encode (op := 0x45#8) rfl rfl
theorem lsrZp (nn : Byte) : Statement (.lsrZp nn) := of_encode (op := 0x46#8) rfl rfl
theorem sreZp (nn : Byte) : Statement (.sreZp nn) := of_encode (op := 0x47#8) rfl rfl
theorem pha : Statement (.pha) := of_encode (op := 0x48#8) rfl rfl
theorem eorImm (nn : Byte) : Statement (.eorImm nn) := of_encode (op := 0x49#8) rfl rfl
theorem lsrAcc : Statement (.lsrAcc) := of_encode (op := 0x4A#8) rfl rfl
theorem hole4B : Statement (.hole4B) := of_encode (op := 0x4B#8) rfl rfl
theorem jmpAbs (w : Addr) : Statement (.jmpAbs w) := of_encode (op := 0x4C#8) rfl rfl
theorem eorAbs (w : Addr) : Statement (.eorAbs w) := of_encode (op := 0x4D#8) rfl rfl
theorem lsrAbs (w : Addr) : Statement (.lsrAbs w) := of_encode (op := 0x4E#8) rfl rfl
theorem sreAbs (w : Addr) : Statement (.sreAbs w) := of_encode (op := 0x4F#8) rfl rfl
theorem bvc (nn : Byte) : Statement (.bvc nn) := of_encode (op := 0x50#8) rfl rfl
theorem eorIzy (nn : Byte) : Statement (.eorIzy nn) := of_encode (op := 0x51#8) rfl rfl
theorem hole52 : Statement (.hole52) := of_encode (op := 0x52#8) rfl rfl
theorem sreIzy (nn : Byte) : Statement (.sreIzy nn) := of_encode (op := 0x53#8) rfl rfl
theorem hole54 : Statement (.hole54) := of_encode (op := 0x54#8) rfl rfl
theorem eorZpx (nn : Byte) : Statement (.eorZpx nn) := of_encode (op := 0x55#8) rfl rfl
theorem lsrZpx (nn : Byte) : Statement (.lsrZpx nn) := of_encode (op := 0x56#8) rfl rfl
theorem sreZpx (nn : Byte) : Statement (.sreZpx nn) := of_encode (op := 0x57#8) rfl rfl
theorem cli : Statement (.cli) := of_encode (op := 0x58#8) rfl rfl
theorem eorAby (w : Addr) : Statement (.eorAby w) := of_encode (op := 0x59#8) rfl rfl
theorem hole5A : Statement (.hole5A) := of_encode (op := 0x5A#8) rfl rfl
theorem sreAby (w : Addr) : Statement (.sreAby w) := of_encode (op := 0x5B#8) rfl rfl
theorem hole5C : Statement (.hole5C) := of_encode (op := 0x5C#8) rfl rfl
theorem eorAbx (w : Addr) : Statement (.eorAbx w) := of_encode (op := 0x5D#8) rfl rfl
theorem lsrAbx (w : Addr) : Statement (.lsrAbx w) := of_encode (op := 0x5E#8) rfl rfl
theorem sreAbx (w : Addr) : Statement (.sreAbx w) := of_encode (op := 0x5F#8) rfl rfl
theorem rts : Statement (.rts) := of_encode (op := 0x60#8) rfl rfl
theorem adcIzx (nn : Byte) : Statement (.adcIzx nn) := of_encode (op := 0x61#8) rfl rfl
theorem hole62 : Statement (.hole62) := of_encode (op := 0x62#8) rfl rfl
theorem rraIzx (nn : Byte) : Statement (.rraIzx nn) := of_encode (op := 0x63#8) rfl rfl
theorem hole64 : Statement (.hole64) := of_encode (op := 0x64#8) rfl rfl
theorem adcZp (nn : Byte) : Statement (.adcZp nn) := of_encode (op := 0x65#8) rfl rfl
theorem rorZp (nn : Byte) : Statement (.rorZp nn) := of_encode (op := 0x66#8) rfl rfl
theorem rraZp (nn : Byte) : Statement (.rraZp nn) := of_encode (op := 0x67#8) rfl rfl
theorem pla : Statement (.pla) := of_encode (op := 0x68#8) rfl rfl
theorem adcImm (nn : Byte) : Statement (.adcImm nn) := of_encode (op := 0x69#8) rfl rfl
theorem rorAcc : Statement (.rorAcc) := of_encode (op := 0x6A#8) rfl rfl
theorem hole6B : Statement (.hole6B) := of_encode (op := 0x6B#8) rfl rfl
theorem jmpInd (w : Addr) : Statement (.jmpInd w) := of_encode (op := 0x6C#8) rfl rfl
theorem adcAbs (w : Addr) : Statement (.adcAbs w) := of_encode (op := 0x6D#8) rfl rfl
theorem rorAbs (w : Addr) : Statement (.rorAbs w) := of_encode (op := 0x6E#8) rfl rfl
theorem rraAbs (w : Addr) : Statement (.rraAbs w) := of_encode (op := 0x6F#8) rfl rfl
theorem bvs (nn : Byte) : Statement (.bvs nn) := of_encode (op := 0x70#8) rfl rfl
theorem adcIzy (nn : Byte) : Statement (.adcIzy nn) := of_encode (op := 0x71#8) rfl rfl
theorem hole72 : Statement (.hole72) := of_encode (op := 0x72#8) rfl rfl
theorem rraIzy (nn : Byte) : Statement (.rraIzy nn) := of_encode (op := 0x73#8) rfl rfl
theorem hole74 : Statement (.hole74) := of_encode (op := 0x74#8) rfl rfl
theorem adcZpx (nn : Byte) : Statement (.adcZpx nn) := of_encode (op := 0x75#8) rfl rfl
theorem rorZpx (nn : Byte) : Statement (.rorZpx nn) := of_encode (op := 0x76#8) rfl rfl
theorem rraZpx (nn : Byte) : Statement (.rraZpx nn) := of_encode (op := 0x77#8) rfl rfl
theorem sei : Statement (.sei) := of_encode (op := 0x78#8) rfl rfl
theorem adcAby (w : Addr) : Statement (.adcAby w) := of_encode (op := 0x79#8) rfl rfl
theorem hole7A : Statement (.hole7A) := of_encode (op := 0x7A#8) rfl rfl
theorem rraAby (w : Addr) : Statement (.rraAby w) := of_encode (op := 0x7B#8) rfl rfl
theorem hole7C : Statement (.hole7C) := of_encode (op := 0x7C#8) rfl rfl
theorem adcAbx (w : Addr) : Statement (.adcAbx w) := of_encode (op := 0x7D#8) rfl rfl
theorem rorAbx (w : Addr) : Statement (.rorAbx w) := of_encode (op := 0x7E#8) rfl rfl
theorem rraAbx (w : Addr) : Statement (.rraAbx w) := of_encode (op := 0x7F#8) rfl rfl
theorem hole80 : Statement (.hole80) := of_encode (op := 0x80#8) rfl rfl
theorem staIzx (nn : Byte) : Statement (.staIzx nn) := of_encode (op := 0x81#8) rfl rfl
theorem hole82 : Statement (.hole82) := of_encode (op := 0x82#8) rfl rfl
theorem saxIzx (nn : Byte) : Statement (.saxIzx nn) := of_encode (op := 0x83#8) rfl rfl
theorem styZp (nn : Byte) : Statement (.styZp nn) := of_encode (op := 0x84#8) rfl rfl
theorem staZp (nn : Byte) : Statement (.staZp nn) := of_encode (op := 0x85#8) rfl rfl
theorem stxZp (nn : Byte) : Statement (.stxZp nn) := of_encode (op := 0x86#8) rfl rfl
theorem saxZp (nn : Byte) : Statement (.saxZp nn) := of_encode (op := 0x87#8) rfl rfl
theorem dey : Statement (.dey) := of_encode (op := 0x88#8) rfl rfl
theorem hole89 : Statement (.hole89) := of_encode (op := 0x89#8) rfl rfl
theorem txa : Statement (.txa) := of_encode (op := 0x8A#8) rfl rfl
theorem hole8B : Statement (.hole8B) := of_encode (op := 0x8B#8) rfl rfl
theorem styAbs (w : Addr) : Statement (.styAbs w) := of_encode (op := 0x8C#8) rfl rfl
theorem staAbs (w : Addr) : Statement (.staAbs w) := of_encode (op := 0x8D#8) rfl rfl
theorem stxAbs (w : Addr) : Statement (.stxAbs w) := of_encode (op := 0x8E#8) rfl rfl
theorem saxAbs (w : Addr) : Statement (.saxAbs w) := of_encode (op := 0x8F#8) rfl rfl
theorem bcc (nn : Byte) : Statement (.bcc nn) := of_encode (op := 0x90#8) rfl rfl
theorem staIzy (nn : Byte) : Statement (.staIzy nn) := of_encode (op := 0x91#8) rfl rfl
theorem hole92 : Statement (.hole92) := of_encode (op := 0x92#8) rfl rfl
theorem hole93 : Statement (.hole93) := of_encode (op := 0x93#8) rfl rfl
theorem styZpx (nn : Byte) : Statement (.styZpx nn) := of_encode (op := 0x94#8) rfl rfl
theorem staZpx (nn : Byte) : Statement (.staZpx nn) := of_encode (op := 0x95#8) rfl rfl
theorem stxZpy (nn : Byte) : Statement (.stxZpy nn) := of_encode (op := 0x96#8) rfl rfl
theorem saxZpy (nn : Byte) : Statement (.saxZpy nn) := of_encode (op := 0x97#8) rfl rfl
theorem tya : Statement (.tya) := of_encode (op := 0x98#8) rfl rfl
theorem staAby (w : Addr) : Statement (.staAby w) := of_encode (op := 0x99#8) rfl rfl
theorem txs : Statement (.txs) := of_encode (op := 0x9A#8) rfl rfl
theorem hole9B : Statement (.hole9B) := of_encode (op := 0x9B#8) rfl rfl
theorem hole9C : Statement (.hole9C) := of_encode (op := 0x9C#8) rfl rfl
theorem staAbx (w : Addr) : Statement (.staAbx w) := of_encode (op := 0x9D#8) rfl rfl
theorem hole9E : Statement (.hole9E) := of_encode (op := 0x9E#8) rfl rfl
theorem hole9F : Statement (.hole9F) := of_encode (op := 0x9F#8) rfl rfl
theorem ldyImm (nn : Byte) : Statement (.ldyImm nn) := of_encode (op := 0xA0#8) rfl rfl
theorem ldaIzx (nn : Byte) : Statement (.ldaIzx nn) := of_encode (op := 0xA1#8) rfl rfl
theorem ldxImm (nn : Byte) : Statement (.ldxImm nn) := of_encode (op := 0xA2#8) rfl rfl
theorem laxIzx (nn : Byte) : Statement (.laxIzx nn) := of_encode (op := 0xA3#8) rfl rfl
theorem ldyZp (nn : Byte) : Statement (.ldyZp nn) := of_encode (op := 0xA4#8) rfl rfl
theorem ldaZp (nn : Byte) : Statement (.ldaZp nn) := of_encode (op := 0xA5#8) rfl rfl
theorem ldxZp (nn : Byte) : Statement (.ldxZp nn) := of_encode (op := 0xA6#8) rfl rfl
theorem laxZp (nn : Byte) : Statement (.laxZp nn) := of_encode (op := 0xA7#8) rfl rfl
theorem tay : Statement (.tay) := of_encode (op := 0xA8#8) rfl rfl
theorem ldaImm (nn : Byte) : Statement (.ldaImm nn) := of_encode (op := 0xA9#8) rfl rfl
theorem tax : Statement (.tax) := of_encode (op := 0xAA#8) rfl rfl
theorem holeAB : Statement (.holeAB) := of_encode (op := 0xAB#8) rfl rfl
theorem ldyAbs (w : Addr) : Statement (.ldyAbs w) := of_encode (op := 0xAC#8) rfl rfl
theorem ldaAbs (w : Addr) : Statement (.ldaAbs w) := of_encode (op := 0xAD#8) rfl rfl
theorem ldxAbs (w : Addr) : Statement (.ldxAbs w) := of_encode (op := 0xAE#8) rfl rfl
theorem laxAbs (w : Addr) : Statement (.laxAbs w) := of_encode (op := 0xAF#8) rfl rfl
theorem bcs (nn : Byte) : Statement (.bcs nn) := of_encode (op := 0xB0#8) rfl rfl
theorem ldaIzy (nn : Byte) : Statement (.ldaIzy nn) := of_encode (op := 0xB1#8) rfl rfl
theorem holeB2 : Statement (.holeB2) := of_encode (op := 0xB2#8) rfl rfl
theorem laxIzy (nn : Byte) : Statement (.laxIzy nn) := of_encode (op := 0xB3#8) rfl rfl
theorem ldyZpx (nn : Byte) : Statement (.ldyZpx nn) := of_encode (op := 0xB4#8) rfl rfl
theorem ldaZpx (nn : Byte) : Statement (.ldaZpx nn) := of_encode (op := 0xB5#8) rfl rfl
theorem ldxZpy (nn : Byte) : Statement (.ldxZpy nn) := of_encode (op := 0xB6#8) rfl rfl
theorem laxZpy (nn : Byte) : Statement (.laxZpy nn) := of_encode (op := 0xB7#8) rfl rfl
theorem clv : Statement (.clv) := of_encode (op := 0xB8#8) rfl rfl
theorem ldaAby (w : Addr) : Statement (.ldaAby w) := of_encode (op := 0xB9#8) rfl rfl
theorem tsx : Statement (.tsx) := of_encode (op := 0xBA#8) rfl rfl
theorem holeBB : Statement (.holeBB) := of_encode (op := 0xBB#8) rfl rfl
theorem ldyAbx (w : Addr) : Statement (.ldyAbx w) := of_encode (op := 0xBC#8) rfl rfl
theorem ldaAbx (w : Addr) : Statement (.ldaAbx w) := of_encode (op := 0xBD#8) rfl rfl
theorem ldxAby (w : Addr) : Statement (.ldxAby w) := of_encode (op := 0xBE#8) rfl rfl
theorem laxAby (w : Addr) : Statement (.laxAby w) := of_encode (op := 0xBF#8) rfl rfl
theorem cpyImm (nn : Byte) : Statement (.cpyImm nn) := of_encode (op := 0xC0#8) rfl rfl
theorem cmpIzx (nn : Byte) : Statement (.cmpIzx nn) := of_encode (op := 0xC1#8) rfl rfl
theorem holeC2 : Statement (.holeC2) := of_encode (op := 0xC2#8) rfl rfl
theorem dcpIzx (nn : Byte) : Statement (.dcpIzx nn) := of_encode (op := 0xC3#8) rfl rfl
theorem cpyZp (nn : Byte) : Statement (.cpyZp nn) := of_encode (op := 0xC4#8) rfl rfl
theorem cmpZp (nn : Byte) : Statement (.cmpZp nn) := of_encode (op := 0xC5#8) rfl rfl
theorem decZp (nn : Byte) : Statement (.decZp nn) := of_encode (op := 0xC6#8) rfl rfl
theorem dcpZp (nn : Byte) : Statement (.dcpZp nn) := of_encode (op := 0xC7#8) rfl rfl
theorem iny : Statement (.iny) := of_encode (op := 0xC8#8) rfl rfl
theorem cmpImm (nn : Byte) : Statement (.cmpImm nn) := of_encode (op := 0xC9#8) rfl rfl
theorem dex : Statement (.dex) := of_encode (op := 0xCA#8) rfl rfl
theorem holeCB : Statement (.holeCB) := of_encode (op := 0xCB#8) rfl rfl
theorem cpyAbs (w : Addr) : Statement (.cpyAbs w) := of_encode (op := 0xCC#8) rfl rfl
theorem cmpAbs (w : Addr) : Statement (.cmpAbs w) := of_encode (op := 0xCD#8) rfl rfl
theorem decAbs (w : Addr) : Statement (.decAbs w) := of_encode (op := 0xCE#8) rfl rfl
theorem dcpAbs (w : Addr) : Statement (.dcpAbs w) := of_encode (op := 0xCF#8) rfl rfl
theorem bne (nn : Byte) : Statement (.bne nn) := of_encode (op := 0xD0#8) rfl rfl
theorem cmpIzy (nn : Byte) : Statement (.cmpIzy nn) := of_encode (op := 0xD1#8) rfl rfl
theorem holeD2 : Statement (.holeD2) := of_encode (op := 0xD2#8) rfl rfl
theorem dcpIzy (nn : Byte) : Statement (.dcpIzy nn) := of_encode (op := 0xD3#8) rfl rfl
theorem holeD4 : Statement (.holeD4) := of_encode (op := 0xD4#8) rfl rfl
theorem cmpZpx (nn : Byte) : Statement (.cmpZpx nn) := of_encode (op := 0xD5#8) rfl rfl
theorem decZpx (nn : Byte) : Statement (.decZpx nn) := of_encode (op := 0xD6#8) rfl rfl
theorem dcpZpx (nn : Byte) : Statement (.dcpZpx nn) := of_encode (op := 0xD7#8) rfl rfl
theorem cld : Statement (.cld) := of_encode (op := 0xD8#8) rfl rfl
theorem cmpAby (w : Addr) : Statement (.cmpAby w) := of_encode (op := 0xD9#8) rfl rfl
theorem holeDA : Statement (.holeDA) := of_encode (op := 0xDA#8) rfl rfl
theorem dcpAby (w : Addr) : Statement (.dcpAby w) := of_encode (op := 0xDB#8) rfl rfl
theorem holeDC : Statement (.holeDC) := of_encode (op := 0xDC#8) rfl rfl
theorem cmpAbx (w : Addr) : Statement (.cmpAbx w) := of_encode (op := 0xDD#8) rfl rfl
theorem decAbx (w : Addr) : Statement (.decAbx w) := of_encode (op := 0xDE#8) rfl rfl
theorem dcpAbx (w : Addr) : Statement (.dcpAbx w) := of_encode (op := 0xDF#8) rfl rfl
theorem cpxImm (nn : Byte) : Statement (.cpxImm nn) := of_encode (op := 0xE0#8) rfl rfl
theorem sbcIzx (nn : Byte) : Statement (.sbcIzx nn) := of_encode (op := 0xE1#8) rfl rfl
theorem holeE2 : Statement (.holeE2) := of_encode (op := 0xE2#8) rfl rfl
theorem isbIzx (nn : Byte) : Statement (.isbIzx nn) := of_encode (op := 0xE3#8) rfl rfl
theorem cpxZp (nn : Byte) : Statement (.cpxZp nn) := of_encode (op := 0xE4#8) rfl rfl
theorem sbcZp (nn : Byte) : Statement (.sbcZp nn) := of_encode (op := 0xE5#8) rfl rfl
theorem incZp (nn : Byte) : Statement (.incZp nn) := of_encode (op := 0xE6#8) rfl rfl
theorem isbZp (nn : Byte) : Statement (.isbZp nn) := of_encode (op := 0xE7#8) rfl rfl
theorem inx : Statement (.inx) := of_encode (op := 0xE8#8) rfl rfl
theorem sbcImm (nn : Byte) : Statement (.sbcImm nn) := of_encode (op := 0xE9#8) rfl rfl
theorem nop : Statement (.nop) := of_encode (op := 0xEA#8) rfl rfl
theorem holeEB : Statement (.holeEB) := of_encode (op := 0xEB#8) rfl rfl
theorem cpxAbs (w : Addr) : Statement (.cpxAbs w) := of_encode (op := 0xEC#8) rfl rfl
theorem sbcAbs (w : Addr) : Statement (.sbcAbs w) := of_encode (op := 0xED#8) rfl rfl
theorem incAbs (w : Addr) : Statement (.incAbs w) := of_encode (op := 0xEE#8) rfl rfl
theorem isbAbs (w : Addr) : Statement (.isbAbs w) := of_encode (op := 0xEF#8) rfl rfl
theorem beq (nn : Byte) : Statement (.beq nn) := of_encode (op := 0xF0#8) rfl rfl
theorem sbcIzy (nn : Byte) : Statement (.sbcIzy nn) := of_encode (op := 0xF1#8) rfl rfl
theorem holeF2 : Statement (.holeF2) := of_encode (op := 0xF2#8) rfl rfl
theorem isbIzy (nn : Byte) : Statement (.isbIzy nn) := of_encode (op := 0xF3#8) rfl rfl
theorem holeF4 : Statement (.holeF4) := of_encode (op := 0xF4#8) rfl rfl
theorem sbcZpx (nn : Byte) : Statement (.sbcZpx nn) := of_encode (op := 0xF5#8) rfl rfl
theorem incZpx (nn : Byte) : Statement (.incZpx nn) := of_encode (op := 0xF6#8) rfl rfl
theorem isbZpx (nn : Byte) : Statement (.isbZpx nn) := of_encode (op := 0xF7#8) rfl rfl
theorem sed : Statement (.sed) := of_encode (op := 0xF8#8) rfl rfl
theorem sbcAby (w : Addr) : Statement (.sbcAby w) := of_encode (op := 0xF9#8) rfl rfl
theorem holeFA : Statement (.holeFA) := of_encode (op := 0xFA#8) rfl rfl
theorem isbAby (w : Addr) : Statement (.isbAby w) := of_encode (op := 0xFB#8) rfl rfl
theorem holeFC : Statement (.holeFC) := of_encode (op := 0xFC#8) rfl rfl
theorem sbcAbx (w : Addr) : Statement (.sbcAbx w) := of_encode (op := 0xFD#8) rfl rfl
theorem incAbx (w : Addr) : Statement (.incAbx w) := of_encode (op := 0xFE#8) rfl rfl
theorem isbAbx (w : Addr) : Statement (.isbAbx w) := of_encode (op := 0xFF#8) rfl rfl

end Sys2Proof.Laws.EncodingShape
end

