-- ==== Sys2Proof/Laws/PpuInvariant.lean ====
section
/-! SUPPORT. A dot of the PPU keeps the invariant. -/

namespace Sys2Proof.Machine

theorem Inv.bgFetch {s : State} (h : Inv s) (d : Nat) : Inv (bgFetch d s) := by
  unfold Machine.bgFetch
  split <;> exact h.ofPpuRegs rfl

theorem bgScroll_frame (line d : Nat) (p : Ppu) : bgScroll line d p = { p with v := (bgScroll line d p).v } := by
  unfold bgScroll
  (repeat' split) <;> rfl

theorem Inv.bgStep {s : State} (h : Inv s) (line d : Nat) : Inv (bgStep line d s) := by
  have h1 : ∀ t, Inv t → Inv (setPpu (bgScroll line d t.ppu) t) := by
    intro t ht
    rw [bgScroll_frame]
    exact ht.ofPpuRegs rfl
  have h2 : ∀ t, Inv t → Inv (if isFetchDot d then Machine.bgFetch d t else t) := by
    intro t ht
    split
    · exact ht.bgFetch d
    · exact ht
  have h3 : ∀ t, Inv t → Inv (if isReloadDot d then setPpu (reloadBg t.ppu) t else t) := by
    intro t ht
    split
    · exact ht.ofPpuRegs rfl
    · exact ht
  have h4 : Inv (if isShiftDot d then setPpu (shiftBg s.ppu) s else s) := by
    split
    · exact h.ofPpuRegs rfl
    · exact h
  exact h1 _ (h2 _ (h3 _ h4))

/-- Sprite evaluation touches the buffer being built and the overflow flag alone, and fills at most eight slots. -/
theorem evalSprite_frame (line : Nat) (p : Ppu) (n : Nat) (h : p.sprNext.length ≤ 8) :
    ∃ l o, evalSprite line p n = { p with sprNext := l, overflow := o } ∧ l.length ≤ 8 := by
  unfold evalSprite
  split
  · split
    · exact ⟨_, p.overflow, rfl, by simp; omega⟩
    · exact ⟨p.sprNext, true, rfl, h⟩
  · exact ⟨p.sprNext, p.overflow, rfl, h⟩

theorem evalSprites_frame (line : Nat) (ns : List Nat) (p : Ppu) (h : p.sprNext.length ≤ 8) :
    ∃ l o, ns.foldl (evalSprite line) p = { p with sprNext := l, overflow := o } ∧ l.length ≤ 8 := by
  induction ns generalizing p with
  | nil => exact ⟨p.sprNext, p.overflow, rfl, h⟩
  | cons n ns ih =>
    obtain ⟨l, o, h1, h2⟩ := evalSprite_frame line p n h
    rw [List.foldl_cons, h1]
    obtain ⟨l', o', h3, h4⟩ := ih { p with sprNext := l, overflow := o } h2
    exact ⟨l', o', h3, h4⟩

theorem spriteEval_frame (line : Nat) (p : Ppu) :
    ∃ l o, spriteEval line p = { p with sprNext := l, overflow := o } ∧ l.length ≤ 8 :=
  evalSprites_frame line _ { p with sprNext := [] } (Nat.zero_le 8)

@[simp] theorem modifySlot_length (f : SpriteSlot → SpriteSlot) (i : Nat) (l : List SpriteSlot) : (modifySlot f i l).length = l.length := by
  induction l generalizing i with
  | nil => cases i <;> rfl
  | cons e l ih =>
    cases i with
    | zero => rfl
    | succ i => simp [modifySlot, ih]

theorem Inv.withSprNext {s : State} (h : Inv s) {l : List SpriteSlot} (o : Bool) (hl : l.length ≤ 8) :
    Inv (setPpu { s.ppu with sprNext := l, overflow := o } s) := by
  obtain ⟨-, -, -, -, m5, m6, m7, m8, m9⟩ := h.memories
  exact h.ofPpu h.position ⟨h.sprites.1, hl⟩ m5 m6 m7 m8 m9

theorem Inv.spriteStep {s : State} (h : Inv s) (line d : Nat) : Inv (spriteStep line d s) := by
  unfold Machine.spriteStep
  split
  · obtain ⟨l, o, he, hl⟩ := spriteEval_frame line s.ppu
    rw [he]
    exact h.withSprNext o hl
  · split
    · split
      · exact h.withSprNext s.ppu.overflow (by rw [modifySlot_length]; exact h.sprites.2)
      · exact h.withSprNext s.ppu.overflow (by rw [modifySlot_length]; exact h.sprites.2)
      · exact h
    · exact h

theorem Inv.compose {s : State} (h : Inv s) {line px : Nat} (hl : line ≤ 239) (hx : px ≤ 255) : Inv (compose line px s) := by
  obtain ⟨-, -, -, -, m5, m6, m7, m8, m9⟩ := h.memories
  exact h.ofPpu h.position h.sprites m5 m6 m7 m8 (Memory.wf_write m9 (by simp only [fbIndex, fbSize]; omega) _)

theorem Inv.dotEvents {s : State} (h : Inv s) (line d : Nat) : Inv (dotEvents line d s) := by
  have key : ∀ (b c e : Bool), Inv (setPpu { s.ppu with vblank := b, spr0hit := c, overflow := e } s) := fun b c e =>
    h.ofPpuRegs rfl
  unfold Machine.dotEvents
  split
  · have h1 : Inv (setPpu { s.ppu with vblank := true, frameDone := true } s) := h.ofPpuRegs rfl
    exact h1.ofCpu rfl h1.status h1.counters.1
  · split
    · exact key false false false
    · exact h

theorem Inv.dotWork {s : State} (h : Inv s) (line d : Nat) : Inv (dotWork line d s) := by
  have h1 := h.dotEvents line d
  have h2 : ∀ t, Inv t → ∀ c : Prop, [Decidable c] → Inv (if c then Machine.bgStep line d t else t) := by
    intro t ht c _
    split
    · exact ht.bgStep line d
    · exact ht
  have h3 : ∀ t, Inv t → Inv (if line ≤ 239 ∧ 1 ≤ d ∧ d ≤ 256 then Machine.compose line (d - 1) t else t) := by
    intro t ht
    split
    · exact ht.compose (by omega) (by omega)
    · exact ht
  have h4 : ∀ t, Inv t → ∀ c : Prop, [Decidable c] → Inv (if c then Machine.spriteStep line d t else t) := by
    intro t ht c _
    split
    · exact ht.spriteStep line d
    · exact ht
  exact h4 _ (h3 _ (h2 _ h1 _)) _

theorem Inv.advance {s : State} (h : Inv s) : Inv (setPpu (advance s.ppu) s) := by
  obtain ⟨-, -, -, -, m5, m6, m7, m8, m9⟩ := h.memories
  have hp := h.position
  unfold Machine.advance
  split
  · refine h.ofPpu ⟨?_, Nat.zero_le _⟩ ⟨h.sprites.2, Nat.zero_le _⟩ m5 m6 m7 m8 m9
    show (if s.ppu.scanline + 1 = 262 then 0 else s.ppu.scanline + 1) ≤ 261
    split <;> omega
  · refine h.ofPpu ⟨hp.1, ?_⟩ h.sprites m5 m6 m7 m8 m9
    show s.ppu.dot + 1 ≤ 340
    omega

/-- One dot keeps the invariant. -/
theorem Inv.ppuDot {s : State} (h : Inv s) : Inv (ppuDot s) := (h.dotWork _ _).advance

end Sys2Proof.Machine
end

