-- ==== Sys2Proof/Laws/Step.lean ====
section
/-! SUPPORT. What a tick can do: the register operations' frames, the PPU's frame, that a tick always answers, and that an instruction
and a CPU slot keep the invariant. -/

namespace Sys2Proof.Machine

/-! Frames of the register operations -/

/-- The operation of a read-class instruction writes A, X, Y and P alone. -/
theorem readOps_state {o : Op} {f : Byte → State → State} (h : (o, f) ∈ readOps) (m : Byte) (s : State) :
    f m s = { s with a := (f m s).a, x := (f m s).x, y := (f m s).y, p := (f m s).p } := by
  have all : ∀ c ∈ readOps, c.2 m s = { s with a := (c.2 m s).a, x := (c.2 m s).x, y := (c.2 m s).y, p := (c.2 m s).p } := by
    simp only [readOps, List.forall_mem_cons]
    and_intros <;> first | rfl | nofun
  exact all (o, f) h

/-- What a read-modify-write instruction does after its store writes A and P alone. -/
theorem rmwOps_state {o : Op} {f : Byte → State → Byte} {g : Byte → Byte → State → State} (h : (o, f, g) ∈ rmwOps) (m r : Byte) (s : State) :
    g m r s = { s with a := (g m r s).a, p := (g m r s).p } := by
  have all : ∀ c ∈ rmwOps, c.2.2 m r s = { s with a := (c.2.2 m r s).a, p := (c.2.2 m r s).p } := by
    simp only [rmwOps, List.forall_mem_cons]
    and_intros <;> first | rfl | nofun
  exact all (o, f, g) h

/-- A register instruction writes A, X, Y, S and P alone. -/
theorem registerOps_state {o : Op} {f : State → State} (h : (o, f) ∈ registerOps) (s : State) :
    f s = { s with a := (f s).a, x := (f s).x, y := (f s).y, s := (f s).s, p := (f s).p } := by
  have all : ∀ c ∈ registerOps,
      c.2 s = { s with a := (c.2 s).a, x := (c.2 s).x, y := (c.2 s).y, s := (c.2 s).s, p := (c.2 s).p } := by
    simp only [registerOps, List.forall_mem_cons]
    and_intros <;> first | rfl | nofun
  exact all (o, f) h

/-! The invariant through an instruction -/

theorem Inv.readOp {o : Op} {f : Byte → State → State} (h : (o, f) ∈ readOps) (m : Byte) {s : State} (hs : Inv s) : Inv (f m s) := by
  have all : ∀ c ∈ readOps, Inv (c.2 m s) := by
    simp only [readOps, List.forall_mem_cons]
    exact ⟨(hs.withA m).setZN m, (hs.withX m).setZN m, (hs.withY m).setZN m, ((hs.withA m).withX m).setZN m, hs.addWithCarry m _,
      hs.addWithCarry _ _, (hs.withA _).setZN _, (hs.withA _).setZN _, (hs.withA _).setZN _, hs.compare _ m, hs.compare _ m,
      hs.compare _ m, hs.bitTest m, nofun⟩
  exact all (o, f) h

theorem Inv.rmwOp {o : Op} {f : Byte → State → Byte} {g : Byte → Byte → State → State} (h : (o, f, g) ∈ rmwOps) (m r : Byte) {s : State}
    (hs : Inv s) : Inv (g m r s) := by
  have hc : ∀ b, Inv (Machine.setFlag flagC b s) := fun b => hs.setFlag (by decide) b
  have all : ∀ c ∈ rmwOps, Inv (c.2.2 m r s) := by
    simp only [rmwOps, List.forall_mem_cons]
    exact ⟨hs.setZN r, hs.setZN r, (hc _).setZN r, (hc _).setZN r, (hc _).setZN r, (hc _).setZN r, (hc _).setZN _,
      hs.addWithCarry _ _, ((hc _).withA _).setZN _, ((hc _).withA _).setZN _, ((hc _).withA _).setZN _, hs.addWithCarry _ _, nofun⟩
  exact all (o, f, g) h

theorem Inv.registerOp {o : Op} {f : State → State} (h : (o, f) ∈ registerOps) {s : State} (hs : Inv s) : Inv (f s) := by
  have hf : ∀ (k : Byte) (b : Bool), k &&& 0x30#8 = 0#8 → Inv (Machine.setFlag k b s) := fun _ b hk => hs.setFlag hk b
  have all : ∀ c ∈ registerOps, Inv (c.2 s) := by
    simp only [registerOps, List.forall_mem_cons]
    exact ⟨(hs.withX _).setZN _, (hs.withY _).setZN _, (hs.withA _).setZN _, (hs.withA _).setZN _, (hs.withX _).setZN _, hs.withS _,
      (hs.withX _).setZN _, (hs.withY _).setZN _, (hs.withX _).setZN _, (hs.withY _).setZN _, hf flagC false rfl, hf flagC true rfl,
      hf flagI false rfl, hf flagI true rfl, hf flagV false rfl, hf flagD false rfl, hf flagD true rfl, hs, hs, nofun⟩
  exact all (o, f) h

theorem Inv.stackOp {o : Op} {f : State → State} (h : (o, f) ∈ stackOps) {s : State} (hs : Inv s) : Inv (f s) := by
  have all : ∀ c ∈ stackOps, Inv (c.2 s) := by
    simp only [stackOps, List.forall_mem_cons]
    exact ⟨hs.push _, hs.push _, (hs.pull.withA _).setZN _, hs.pull.withStatus (statusOk_pulledStatus _), hs.pull16.withPc _,
      (hs.withPc _).takeException _ _ fun _ hp => hp, hs.returnFromException, nofun⟩
  exact all (o, f) h

/-- An instruction keeps the invariant. -/
theorem Inv.exec {i : Instr} {s t : State} (h : Inv s) (ht : exec i s = .next t) : Inv t := by
  obtain ⟨u, hu, hsh⟩ := exec_shape i s
  rw [ht] at hu
  obtain rfl : t = u := by simpa using hu
  generalize i.op = o at hsh
  cases hsh with
  | read hf base hb marked o => exact h.readClass (by omega) marked o fun m _ => Inv.readOp hf m
  | write hv base hb m => exact h.writeClass (by omega) m _
  | rmw hf base hb m => exact h.rmwClass (by omega) m _ fun m r _ => Inv.rmwOp hf m r
  | acc hf => exact h.accClass (by omega) _ fun m r _ => Inv.rmwOp hf m r
  | branch hc d => exact h.branch _ d
  | register hf n hn => exact (Inv.registerOp hf h).retire (by omega)
  | stack hf n hn => exact (Inv.stackOp hf h).retire (by omega)
  | jump w => exact (h.withPc w).retire (by omega)
  | jumpIndirect w => exact (((h.memRead _).memRead _).withPc _).retire (by omega)
  | jsr w => exact ((h.push16 _).withPc w).retire (by omega)

/-! A tick always answers -/

theorem exec_next (i : Instr) (s : State) : ∃ t, exec i s = .next t := by
  obtain ⟨t, h, -⟩ := exec_shape i s
  exact ⟨t, h⟩

theorem cpuCycle_next (s : State) : ∃ t, cpuCycle s = .next t := by
  unfold cpuCycle executeInstruction
  (repeat' split)
  · exact ⟨_, rfl⟩
  · exact ⟨_, rfl⟩
  · exact ⟨_, rfl⟩
  · exact exec_next _ _

theorem cpuSlot_next (s : State) : ∃ t, cpuSlot s = .next t := by
  unfold cpuSlot
  split
  · exact ⟨_, rfl⟩
  · exact cpuCycle_next s

/-! The PPU's frame -/

/-- Changes of the PPU alone, one after the other. -/
theorem ppu_trans {s t u : State} (h1 : t = { s with ppu := t.ppu }) (h2 : u = { t with ppu := u.ppu }) : u = { s with ppu := u.ppu } :=
  h2.trans (by rw [h1])

theorem ppu_ite (c : Prop) [Decidable c] {s t : State} (h : t = { s with ppu := t.ppu }) :
    (if c then t else s) = { s with ppu := (if c then t else s).ppu } := by
  split
  · exact h
  · rfl

theorem setPpu_state (p : Ppu) (s : State) : setPpu p s = { s with ppu := (setPpu p s).ppu } := rfl

theorem bgFetch_state (d : Nat) (s : State) : bgFetch d s = { s with ppu := (bgFetch d s).ppu } := by
  unfold bgFetch
  split <;> rfl

theorem bgStep_state (line d : Nat) (s : State) : bgStep line d s = { s with ppu := (bgStep line d s).ppu } :=
  ppu_trans (ppu_trans (ppu_trans (ppu_ite (isShiftDot d = true) rfl) (ppu_ite (isReloadDot d = true) rfl))
    (ppu_ite (isFetchDot d = true) (bgFetch_state d _))) rfl

theorem spriteStep_state (line d : Nat) (s : State) : spriteStep line d s = { s with ppu := (spriteStep line d s).ppu } := by
  unfold spriteStep
  split
  · exact setPpu_state _ _
  · split
    · split
      · exact setPpu_state _ _
      · exact setPpu_state _ _
      · rfl
    · rfl

theorem dotEvents_state (line d : Nat) (s : State) :
    dotEvents line d s = { s with ppu := (dotEvents line d s).ppu, nmiPending := (dotEvents line d s).nmiPending } := by
  unfold dotEvents
  (repeat' split) <;> rfl

/-- After a dot's events, the dot touches the PPU alone. -/
theorem dotWork_after (line d : Nat) (s : State) :
    dotWork line d s = { dotEvents line d s with ppu := (dotWork line d s).ppu } :=
  ppu_trans (ppu_trans (ppu_ite _ (bgStep_state line d _)) (ppu_ite _ rfl)) (ppu_ite _ (spriteStep_state line d _))

/-- A dot touches the PPU and the NMI latch alone. -/
theorem ppuDot_state (s : State) : ppuDot s = { s with ppu := (ppuDot s).ppu, nmiPending := (ppuDot s).nmiPending } := by
  have h : ppuDot s = { dotEvents s.ppu.scanline s.ppu.dot s with ppu := (ppuDot s).ppu } := ppu_trans (dotWork_after _ _ s) rfl
  rw [h, dotEvents_state]

/-- The NMI latch after a dot is the one its events leave. -/
theorem ppuDot_nmiPending (s : State) : (ppuDot s).nmiPending = (dotEvents s.ppu.scanline s.ppu.dot s).nmiPending := by
  have h : ppuDot s = { dotEvents s.ppu.scanline s.ppu.dot s with ppu := (ppuDot s).ppu } := ppu_trans (dotWork_after _ _ s) rfl
  rw [h]

@[simp] theorem ppuDot_a (s : State) : (ppuDot s).a = s.a := by rw [ppuDot_state]
@[simp] theorem ppuDot_x (s : State) : (ppuDot s).x = s.x := by rw [ppuDot_state]
@[simp] theorem ppuDot_y (s : State) : (ppuDot s).y = s.y := by rw [ppuDot_state]
@[simp] theorem ppuDot_s (s : State) : (ppuDot s).s = s.s := by rw [ppuDot_state]
@[simp] theorem ppuDot_pc (s : State) : (ppuDot s).pc = s.pc := by rw [ppuDot_state]
@[simp] theorem ppuDot_p (s : State) : (ppuDot s).p = s.p := by rw [ppuDot_state]
@[simp] theorem ppuDot_cycles (s : State) : (ppuDot s).cycles = s.cycles := by rw [ppuDot_state]
@[simp] theorem ppuDot_idle (s : State) : (ppuDot s).idle = s.idle := by rw [ppuDot_state]
@[simp] theorem ppuDot_irqPending (s : State) : (ppuDot s).irqPending = s.irqPending := by rw [ppuDot_state]
@[simp] theorem ppuDot_cur (s : State) : (ppuDot s).cur = s.cur := by rw [ppuDot_state]
@[simp] theorem ppuDot_ram (s : State) : (ppuDot s).ram = s.ram := by rw [ppuDot_state]
@[simp] theorem ppuDot_dma (s : State) : (ppuDot s).dma = s.dma := by rw [ppuDot_state]
@[simp] theorem ppuDot_pad (s : State) : (ppuDot s).pad = s.pad := by rw [ppuDot_state]
@[simp] theorem ppuDot_apu (s : State) : (ppuDot s).apu = s.apu := by rw [ppuDot_state]
@[simp] theorem ppuDot_wram (s : State) : (ppuDot s).wram = s.wram := by rw [ppuDot_state]
@[simp] theorem ppuDot_chrRam (s : State) : (ppuDot s).chrRam = s.chrRam := by rw [ppuDot_state]
@[simp] theorem ppuDot_mirroring (s : State) : (ppuDot s).mirroring = s.mirroring := by rw [ppuDot_state]
@[simp] theorem ppuDot_mapper (s : State) : (ppuDot s).mapper = s.mapper := by rw [ppuDot_state]
@[simp] theorem ppuDot_cfg (s : State) : (ppuDot s).cfg = s.cfg := by rw [ppuDot_state]
@[simp] theorem ppuDot_host (s : State) : (ppuDot s).host = s.host := by rw [ppuDot_state]

@[simp] theorem finishTick_a (s : State) : (finishTick s).a = s.a := by simp [finishTick]
@[simp] theorem finishTick_x (s : State) : (finishTick s).x = s.x := by simp [finishTick]
@[simp] theorem finishTick_y (s : State) : (finishTick s).y = s.y := by simp [finishTick]
@[simp] theorem finishTick_s (s : State) : (finishTick s).s = s.s := by simp [finishTick]
@[simp] theorem finishTick_pc (s : State) : (finishTick s).pc = s.pc := by simp [finishTick]
@[simp] theorem finishTick_p (s : State) : (finishTick s).p = s.p := by simp [finishTick]
@[simp] theorem finishTick_cycles (s : State) : (finishTick s).cycles = s.cycles + 1#64 := by simp [finishTick]
@[simp] theorem finishTick_idle (s : State) : (finishTick s).idle = s.idle := by simp [finishTick]
@[simp] theorem finishTick_irqPending (s : State) : (finishTick s).irqPending = s.irqPending := by simp [finishTick]
@[simp] theorem finishTick_cur (s : State) : (finishTick s).cur = s.cur := by simp [finishTick]
@[simp] theorem finishTick_ram (s : State) : (finishTick s).ram = s.ram := by simp [finishTick]
@[simp] theorem finishTick_dma (s : State) : (finishTick s).dma = s.dma := by simp [finishTick]
@[simp] theorem finishTick_pad (s : State) : (finishTick s).pad = s.pad := by simp [finishTick]
@[simp] theorem finishTick_apu (s : State) : (finishTick s).apu = s.apu := by simp [finishTick]
@[simp] theorem finishTick_wram (s : State) : (finishTick s).wram = s.wram := by simp [finishTick]
@[simp] theorem finishTick_chrRam (s : State) : (finishTick s).chrRam = s.chrRam := by simp [finishTick]
@[simp] theorem finishTick_mirroring (s : State) : (finishTick s).mirroring = s.mirroring := by simp [finishTick]
@[simp] theorem finishTick_mapper (s : State) : (finishTick s).mapper = s.mapper := by simp [finishTick]
@[simp] theorem finishTick_cfg (s : State) : (finishTick s).cfg = s.cfg := by simp [finishTick]
@[simp] theorem finishTick_host (s : State) : (finishTick s).host = s.host := by simp [finishTick]

/-- The three dots of a tick and its cycle counter keep the invariant. -/
theorem Inv.finishTick {s : State} (h : Inv s) : Inv (finishTick s) := by
  have h3 := h.ppuDot.ppuDot.ppuDot
  unfold Machine.finishTick
  generalize Machine.ppuDot (Machine.ppuDot (Machine.ppuDot s)) = t at h3 ⊢
  exact h3.ofCpu rfl h3.status h3.counters.1

end Sys2Proof.Machine
end

