-- ==== Sys2Proof/Laws/Reset.lean ====
section
/-! SUPPORT. Reset, the host's operations and the DMA engine: `State.reset` is a power-up, and each operation keeps the invariant. -/

namespace Sys2Proof

open Machine

/-- `State.reset` is what powering up the blank launch leaves. -/
theorem Laws.reset_eq_powerUp : powerUp Launch.blank = State.reset := by decide

namespace Machine

theorem mapperReset_kind (k : MapperKind) : mapperKind (mapperReset k) = k := by cases k <;> rfl

theorem mapperReset_regsOk (k : MapperKind) : mapperRegsOk (mapperReset k) = true := by cases k <;> decide

/-- A reset keeps what it does not write, and leaves the rest as the invariant asks. -/
theorem Inv.resetRegisters {s : State} (hr : Memory.wf ramSize s.ram) (hw : Memory.wf wramSize s.wram) (hc : Memory.wf chrBankSize s.chrRam)
    (hcart : s.cfg.cart.wf) (hcol : Memory.wf colourCount s.cfg.colours) : Inv (resetRegisters s) where
  status := (by decide : statusOk 0x24#8 = true)
  counters := ⟨Nat.zero_le _, Nat.zero_le _, Nat.zero_le _⟩
  position := ⟨le_refl 261, Nat.zero_le _⟩
  sprites := ⟨Nat.zero_le _, Nat.zero_le _⟩
  memories := ⟨hr, hw, hc, Memory.wf_nil _, Memory.wf_nil _, Memory.wf_nil _, Memory.wf_nil _, Memory.wf_nil _, Memory.wf_fill _ _⟩
  mapper := ⟨mapperReset_kind _, mapperReset_regsOk _⟩
  mirroring := Iff.rfl
  cart := hcart
  colours := hcol

theorem Inv.warmReset {s : State} (hr : Memory.wf ramSize s.ram) (hw : Memory.wf wramSize s.wram) (hc : Memory.wf chrBankSize s.chrRam)
    (hcart : s.cfg.cart.wf) (hcol : Memory.wf colourCount s.cfg.colours) : Inv (warmReset s) :=
  ((Inv.resetRegisters hr hw hc hcart hcol).read16 resetVector).withPc _

theorem Inv.hostOp {s : State} (h : Inv s) (o : HostOp) : Inv (hostOp o s) := by
  cases o with
  | reset => exact Inv.warmReset h.memories.1 h.memories.2.1 h.memories.2.2.1 h.cart h.colours
  | setButtons b => exact h.ofCpu rfl h.status h.counters.1
  | pullIrq => exact h.ofCpu rfl h.status h.counters.1
  | pullNmi => exact h.ofCpu rfl h.status h.counters.1
  | grabFrameDone => exact h.ofPpuRegs rfl

theorem Inv.hostOps {s : State} (h : Inv s) (ops : List HostOp) : Inv (hostOps ops s) := by
  induction ops generalizing s with
  | nil => exact h
  | cons o ops ih => exact ih (h.hostOp o)

theorem Inv.hostTurn {s : State} (h : Inv s) : Inv (hostTurn s) := by
  unfold Machine.hostTurn
  split
  · exact h
  · refine Inv.hostOps ?_ _
    exact h.ofCpu rfl h.status h.counters.1

theorem Inv.dmaCycle {s : State} (h : Inv s) : Inv (dmaCycle s) := by
  have hd := h.counters.2.1
  unfold Machine.dmaCycle
  split
  · exact h.withDma (by show s.dma.dummy - 1 ≤ 2; omega)
  split
  · have hr := h.memRead (join s.dma.page s.dma.index)
    exact hr.withDma hr.counters.2.1
  · obtain ⟨-, -, -, -, m5, m6, m7, m8, m9⟩ := h.memories
    have h1 : Inv (setPpu { s.ppu with oam := Memory.write s.ppu.oam s.dma.index.toNat s.dma.latch } s) :=
      h.ofPpu h.position h.sprites (Memory.wf_write m5 s.dma.index.isLt _) m6 m7 m8 m9
    have h2 := h1.withDma (d := if s.dma.index = 255#8 then { s.dma with active := false, phase := .read }
      else { s.dma with index := s.dma.index + 1#8, phase := .read }) (by split <;> exact hd)
    exact h2

end Machine

end Sys2Proof
end

