-- ==== Sys2Proof/Tests/Slice0.lean ====
section
/-! SUPPORT. The model's own tests: the decoding of every opcode of the spec's tables, the well-formedness checks, one step of each
instruction on the spec's own example, the devices, and a witness for the hypotheses of each obligation. Every expected value is from
spec/: the rule a test cites gives it. -/

namespace Sys2Proof.Tests

open Sys2Proof Sys2Proof.Machine Sys2Proof.Vocab

/-! Decoding -/

/-- Each word decodes to its instruction with nothing left over. -/
def decodesAs (l : List (List Byte × Instr)) : Bool :=
  l.all fun c => match decode c.1 with
    | .ok (i, []) => decide (i = c.2)
    | _ => false

/-- 40_load_store_transfer.md, R161 to R165. -/
theorem test_decode_load_store_transfer_1 :
    decodesAs
    [([0xA9#8, 0x9C#8], .ldaImm 0x9C#8), ([0xA5#8, 0x9C#8], .ldaZp 0x9C#8), ([0xB5#8, 0x9C#8], .ldaZpx 0x9C#8),
     ([0xA1#8, 0x9C#8], .ldaIzx 0x9C#8), ([0xB1#8, 0x9C#8], .ldaIzy 0x9C#8), ([0xAD#8, 0x34#8, 0xC2#8], .ldaAbs 0xC234#16),
     ([0xBD#8, 0x34#8, 0xC2#8], .ldaAbx 0xC234#16), ([0xB9#8, 0x34#8, 0xC2#8], .ldaAby 0xC234#16), ([0xA2#8, 0x9C#8], .ldxImm 0x9C#8),
     ([0xA6#8, 0x9C#8], .ldxZp 0x9C#8), ([0xB6#8, 0x9C#8], .ldxZpy 0x9C#8), ([0xAE#8, 0x34#8, 0xC2#8], .ldxAbs 0xC234#16),
     ([0xBE#8, 0x34#8, 0xC2#8], .ldxAby 0xC234#16), ([0xA0#8, 0x9C#8], .ldyImm 0x9C#8), ([0xA4#8, 0x9C#8], .ldyZp 0x9C#8),
     ([0xB4#8, 0x9C#8], .ldyZpx 0x9C#8), ([0xAC#8, 0x34#8, 0xC2#8], .ldyAbs 0xC234#16), ([0xBC#8, 0x34#8, 0xC2#8], .ldyAbx 0xC234#16),
     ([0x85#8, 0x9C#8], .staZp 0x9C#8), ([0x95#8, 0x9C#8], .staZpx 0x9C#8), ([0x81#8, 0x9C#8], .staIzx 0x9C#8),
     ([0x91#8, 0x9C#8], .staIzy 0x9C#8), ([0x8D#8, 0x34#8, 0xC2#8], .staAbs 0xC234#16), ([0x9D#8, 0x34#8, 0xC2#8], .staAbx 0xC234#16),
     ([0x99#8, 0x34#8, 0xC2#8], .staAby 0xC234#16), ([0x86#8, 0x9C#8], .stxZp 0x9C#8), ([0x96#8, 0x9C#8], .stxZpy 0x9C#8)] = true := by decide

/-- 40_load_store_transfer.md, R165 to R172. -/
theorem test_decode_load_store_transfer_2 :
    decodesAs
    [([0x8E#8, 0x34#8, 0xC2#8], .stxAbs 0xC234#16), ([0x84#8, 0x9C#8], .styZp 0x9C#8), ([0x94#8, 0x9C#8], .styZpx 0x9C#8),
     ([0x8C#8, 0x34#8, 0xC2#8], .styAbs 0xC234#16), ([0xAA#8], .tax), ([0xA8#8], .tay),
     ([0x8A#8], .txa), ([0x98#8], .tya), ([0xBA#8], .tsx),
     ([0x9A#8], .txs)] = true := by decide

/-- 41_arith_logic.md, R180 to R183. -/
theorem test_decode_arith_logic_1 :
    decodesAs
    [([0x69#8, 0x9C#8], .adcImm 0x9C#8), ([0x65#8, 0x9C#8], .adcZp 0x9C#8), ([0x75#8, 0x9C#8], .adcZpx 0x9C#8),
     ([0x61#8, 0x9C#8], .adcIzx 0x9C#8), ([0x71#8, 0x9C#8], .adcIzy 0x9C#8), ([0x6D#8, 0x34#8, 0xC2#8], .adcAbs 0xC234#16),
     ([0x7D#8, 0x34#8, 0xC2#8], .adcAbx 0xC234#16), ([0x79#8, 0x34#8, 0xC2#8], .adcAby 0xC234#16), ([0xE9#8, 0x9C#8], .sbcImm 0x9C#8),
     ([0xE5#8, 0x9C#8], .sbcZp 0x9C#8), ([0xF5#8, 0x9C#8], .sbcZpx 0x9C#8), ([0xE1#8, 0x9C#8], .sbcIzx 0x9C#8),
     ([0xF1#8, 0x9C#8], .sbcIzy 0x9C#8), ([0xED#8, 0x34#8, 0xC2#8], .sbcAbs 0xC234#16), ([0xFD#8, 0x34#8, 0xC2#8], .sbcAbx 0xC234#16),
     ([0xF9#8, 0x34#8, 0xC2#8], .sbcAby 0xC234#16), ([0x29#8, 0x9C#8], .andImm 0x9C#8), ([0x25#8, 0x9C#8], .andZp 0x9C#8),
     ([0x35#8, 0x9C#8], .andZpx 0x9C#8), ([0x21#8, 0x9C#8], .andIzx 0x9C#8), ([0x31#8, 0x9C#8], .andIzy 0x9C#8),
     ([0x2D#8, 0x34#8, 0xC2#8], .andAbs 0xC234#16), ([0x3D#8, 0x34#8, 0xC2#8], .andAbx 0xC234#16), ([0x39#8, 0x34#8, 0xC2#8], .andAby 0xC234#16),
     ([0x09#8, 0x9C#8], .oraImm 0x9C#8), ([0x05#8, 0x9C#8], .oraZp 0x9C#8), ([0x15#8, 0x9C#8], .oraZpx 0x9C#8)] = true := by decide

/-- 41_arith_logic.md, R183 to R187. -/
theorem test_decode_arith_logic_2 :
    decodesAs
    [([0x01#8, 0x9C#8], .oraIzx 0x9C#8), ([0x11#8, 0x9C#8], .oraIzy 0x9C#8), ([0x0D#8, 0x34#8, 0xC2#8], .oraAbs 0xC234#16),
     ([0x1D#8, 0x34#8, 0xC2#8], .oraAbx 0xC234#16), ([0x19#8, 0x34#8, 0xC2#8], .oraAby 0xC234#16), ([0x49#8, 0x9C#8], .eorImm 0x9C#8),
     ([0x45#8, 0x9C#8], .eorZp 0x9C#8), ([0x55#8, 0x9C#8], .eorZpx 0x9C#8), ([0x41#8, 0x9C#8], .eorIzx 0x9C#8),
     ([0x51#8, 0x9C#8], .eorIzy 0x9C#8), ([0x4D#8, 0x34#8, 0xC2#8], .eorAbs 0xC234#16), ([0x5D#8, 0x34#8, 0xC2#8], .eorAbx 0xC234#16),
     ([0x59#8, 0x34#8, 0xC2#8], .eorAby 0xC234#16), ([0xC9#8, 0x9C#8], .cmpImm 0x9C#8), ([0xC5#8, 0x9C#8], .cmpZp 0x9C#8),
     ([0xD5#8, 0x9C#8], .cmpZpx 0x9C#8), ([0xC1#8, 0x9C#8], .cmpIzx 0x9C#8), ([0xD1#8, 0x9C#8], .cmpIzy 0x9C#8),
     ([0xCD#8, 0x34#8, 0xC2#8], .cmpAbs 0xC234#16), ([0xDD#8, 0x34#8, 0xC2#8], .cmpAbx 0xC234#16), ([0xD9#8, 0x34#8, 0xC2#8], .cmpAby 0xC234#16),
     ([0xE0#8, 0x9C#8], .cpxImm 0x9C#8), ([0xE4#8, 0x9C#8], .cpxZp 0x9C#8), ([0xEC#8, 0x34#8, 0xC2#8], .cpxAbs 0xC234#16),
     ([0xC0#8, 0x9C#8], .cpyImm 0x9C#8), ([0xC4#8, 0x9C#8], .cpyZp 0x9C#8), ([0xCC#8, 0x34#8, 0xC2#8], .cpyAbs 0xC234#16)] = true := by decide

/-- 41_arith_logic.md, R188 to R194. -/
theorem test_decode_arith_logic_3 :
    decodesAs
    [([0x24#8, 0x9C#8], .bitZp 0x9C#8), ([0x2C#8, 0x34#8, 0xC2#8], .bitAbs 0xC234#16), ([0xE6#8, 0x9C#8], .incZp 0x9C#8),
     ([0xF6#8, 0x9C#8], .incZpx 0x9C#8), ([0xEE#8, 0x34#8, 0xC2#8], .incAbs 0xC234#16), ([0xFE#8, 0x34#8, 0xC2#8], .incAbx 0xC234#16),
     ([0xC6#8, 0x9C#8], .decZp 0x9C#8), ([0xD6#8, 0x9C#8], .decZpx 0x9C#8), ([0xCE#8, 0x34#8, 0xC2#8], .decAbs 0xC234#16),
     ([0xDE#8, 0x34#8, 0xC2#8], .decAbx 0xC234#16), ([0xE8#8], .inx), ([0xC8#8], .iny),
     ([0xCA#8], .dex), ([0x88#8], .dey)] = true := by decide

/-- 42_shift_rotate.md, R200 to R203. -/
theorem test_decode_shift_rotate_1 :
    decodesAs
    [([0x0A#8], .aslAcc), ([0x06#8, 0x9C#8], .aslZp 0x9C#8), ([0x16#8, 0x9C#8], .aslZpx 0x9C#8),
     ([0x0E#8, 0x34#8, 0xC2#8], .aslAbs 0xC234#16), ([0x1E#8, 0x34#8, 0xC2#8], .aslAbx 0xC234#16), ([0x4A#8], .lsrAcc),
     ([0x46#8, 0x9C#8], .lsrZp 0x9C#8), ([0x56#8, 0x9C#8], .lsrZpx 0x9C#8), ([0x4E#8, 0x34#8, 0xC2#8], .lsrAbs 0xC234#16),
     ([0x5E#8, 0x34#8, 0xC2#8], .lsrAbx 0xC234#16), ([0x2A#8], .rolAcc), ([0x26#8, 0x9C#8], .rolZp 0x9C#8),
     ([0x36#8, 0x9C#8], .rolZpx 0x9C#8), ([0x2E#8, 0x34#8, 0xC2#8], .rolAbs 0xC234#16), ([0x3E#8, 0x34#8, 0xC2#8], .rolAbx 0xC234#16),
     ([0x6A#8], .rorAcc), ([0x66#8, 0x9C#8], .rorZp 0x9C#8), ([0x76#8, 0x9C#8], .rorZpx 0x9C#8),
     ([0x6E#8, 0x34#8, 0xC2#8], .rorAbs 0xC234#16), ([0x7E#8, 0x34#8, 0xC2#8], .rorAbx 0xC234#16)] = true := by decide

/-- 43_control_flow.md, R210 to R224. -/
theorem test_decode_control_flow_1 :
    decodesAs
    [([0x4C#8, 0x34#8, 0xC2#8], .jmpAbs 0xC234#16), ([0x6C#8, 0x34#8, 0xC2#8], .jmpInd 0xC234#16), ([0x20#8, 0x34#8, 0xC2#8], .jsr 0xC234#16),
     ([0x60#8], .rts), ([0x90#8, 0x9C#8], .bcc 0x9C#8), ([0xB0#8, 0x9C#8], .bcs 0x9C#8),
     ([0xF0#8, 0x9C#8], .beq 0x9C#8), ([0xD0#8, 0x9C#8], .bne 0x9C#8), ([0x30#8, 0x9C#8], .bmi 0x9C#8),
     ([0x10#8, 0x9C#8], .bpl 0x9C#8), ([0x50#8, 0x9C#8], .bvc 0x9C#8), ([0x70#8, 0x9C#8], .bvs 0x9C#8),
     ([0x00#8], .brk), ([0x40#8], .rti), ([0xEA#8], .nop)] = true := by decide

/-- 44_stack_flags.md, R230 to R240. -/
theorem test_decode_stack_flags_1 :
    decodesAs
    [([0x48#8], .pha), ([0x08#8], .php), ([0x68#8], .pla),
     ([0x28#8], .plp), ([0x18#8], .clc), ([0x38#8], .sec),
     ([0x58#8], .cli), ([0x78#8], .sei), ([0xB8#8], .clv),
     ([0xD8#8], .cld), ([0xF8#8], .sed)] = true := by decide

/-- 45_illegal.md, R251 to R255. -/
theorem test_decode_illegal_1 :
    decodesAs
    [([0xA7#8, 0x9C#8], .laxZp 0x9C#8), ([0xB7#8, 0x9C#8], .laxZpy 0x9C#8), ([0xA3#8, 0x9C#8], .laxIzx 0x9C#8),
     ([0xB3#8, 0x9C#8], .laxIzy 0x9C#8), ([0xAF#8, 0x34#8, 0xC2#8], .laxAbs 0xC234#16), ([0xBF#8, 0x34#8, 0xC2#8], .laxAby 0xC234#16),
     ([0x87#8, 0x9C#8], .saxZp 0x9C#8), ([0x97#8, 0x9C#8], .saxZpy 0x9C#8), ([0x83#8, 0x9C#8], .saxIzx 0x9C#8),
     ([0x8F#8, 0x34#8, 0xC2#8], .saxAbs 0xC234#16), ([0xC7#8, 0x9C#8], .dcpZp 0x9C#8), ([0xD7#8, 0x9C#8], .dcpZpx 0x9C#8),
     ([0xC3#8, 0x9C#8], .dcpIzx 0x9C#8), ([0xD3#8, 0x9C#8], .dcpIzy 0x9C#8), ([0xCF#8, 0x34#8, 0xC2#8], .dcpAbs 0xC234#16),
     ([0xDF#8, 0x34#8, 0xC2#8], .dcpAbx 0xC234#16), ([0xDB#8, 0x34#8, 0xC2#8], .dcpAby 0xC234#16), ([0xE7#8, 0x9C#8], .isbZp 0x9C#8),
     ([0xF7#8, 0x9C#8], .isbZpx 0x9C#8), ([0xE3#8, 0x9C#8], .isbIzx 0x9C#8), ([0xF3#8, 0x9C#8], .isbIzy 0x9C#8),
     ([0xEF#8, 0x34#8, 0xC2#8], .isbAbs 0xC234#16), ([0xFF#8, 0x34#8, 0xC2#8], .isbAbx 0xC234#16), ([0xFB#8, 0x34#8, 0xC2#8], .isbAby 0xC234#16),
     ([0x07#8, 0x9C#8], .sloZp 0x9C#8), ([0x17#8, 0x9C#8], .sloZpx 0x9C#8), ([0x03#8, 0x9C#8], .sloIzx 0x9C#8)] = true := by decide

/-- 45_illegal.md, R255 to R258. -/
theorem test_decode_illegal_2 :
    decodesAs
    [([0x13#8, 0x9C#8], .sloIzy 0x9C#8), ([0x0F#8, 0x34#8, 0xC2#8], .sloAbs 0xC234#16), ([0x1F#8, 0x34#8, 0xC2#8], .sloAbx 0xC234#16),
     ([0x1B#8, 0x34#8, 0xC2#8], .sloAby 0xC234#16), ([0x27#8, 0x9C#8], .rlaZp 0x9C#8), ([0x37#8, 0x9C#8], .rlaZpx 0x9C#8),
     ([0x23#8, 0x9C#8], .rlaIzx 0x9C#8), ([0x33#8, 0x9C#8], .rlaIzy 0x9C#8), ([0x2F#8, 0x34#8, 0xC2#8], .rlaAbs 0xC234#16),
     ([0x3F#8, 0x34#8, 0xC2#8], .rlaAbx 0xC234#16), ([0x3B#8, 0x34#8, 0xC2#8], .rlaAby 0xC234#16), ([0x47#8, 0x9C#8], .sreZp 0x9C#8),
     ([0x57#8, 0x9C#8], .sreZpx 0x9C#8), ([0x43#8, 0x9C#8], .sreIzx 0x9C#8), ([0x53#8, 0x9C#8], .sreIzy 0x9C#8),
     ([0x4F#8, 0x34#8, 0xC2#8], .sreAbs 0xC234#16), ([0x5F#8, 0x34#8, 0xC2#8], .sreAbx 0xC234#16), ([0x5B#8, 0x34#8, 0xC2#8], .sreAby 0xC234#16),
     ([0x67#8, 0x9C#8], .rraZp 0x9C#8), ([0x77#8, 0x9C#8], .rraZpx 0x9C#8), ([0x63#8, 0x9C#8], .rraIzx 0x9C#8),
     ([0x73#8, 0x9C#8], .rraIzy 0x9C#8), ([0x6F#8, 0x34#8, 0xC2#8], .rraAbs 0xC234#16), ([0x7F#8, 0x34#8, 0xC2#8], .rraAbx 0xC234#16),
     ([0x7B#8, 0x34#8, 0xC2#8], .rraAby 0xC234#16)] = true := by decide

/-- 30_encoding.md R151. -/
theorem test_decode_holes_1 :
    decodesAs
    [([0x02#8], .hole02), ([0x04#8], .hole04), ([0x0B#8], .hole0B), ([0x0C#8], .hole0C), ([0x12#8], .hole12),
     ([0x14#8], .hole14), ([0x1A#8], .hole1A), ([0x1C#8], .hole1C), ([0x22#8], .hole22), ([0x2B#8], .hole2B),
     ([0x32#8], .hole32), ([0x34#8], .hole34), ([0x3A#8], .hole3A), ([0x3C#8], .hole3C), ([0x42#8], .hole42),
     ([0x44#8], .hole44), ([0x4B#8], .hole4B), ([0x52#8], .hole52), ([0x54#8], .hole54), ([0x5A#8], .hole5A),
     ([0x5C#8], .hole5C), ([0x62#8], .hole62), ([0x64#8], .hole64), ([0x6B#8], .hole6B), ([0x72#8], .hole72),
     ([0x74#8], .hole74), ([0x7A#8], .hole7A)] = true := by decide

/-- 30_encoding.md R151. -/
theorem test_decode_holes_2 :
    decodesAs
    [([0x7C#8], .hole7C), ([0x80#8], .hole80), ([0x82#8], .hole82), ([0x89#8], .hole89), ([0x8B#8], .hole8B),
     ([0x92#8], .hole92), ([0x93#8], .hole93), ([0x9B#8], .hole9B), ([0x9C#8], .hole9C), ([0x9E#8], .hole9E),
     ([0x9F#8], .hole9F), ([0xAB#8], .holeAB), ([0xB2#8], .holeB2), ([0xBB#8], .holeBB), ([0xC2#8], .holeC2),
     ([0xCB#8], .holeCB), ([0xD2#8], .holeD2), ([0xD4#8], .holeD4), ([0xDA#8], .holeDA), ([0xDC#8], .holeDC),
     ([0xE2#8], .holeE2), ([0xEB#8], .holeEB), ([0xF2#8], .holeF2), ([0xF4#8], .holeF4), ([0xFA#8], .holeFA),
     ([0xFC#8], .holeFC)] = true := by decide

/-- The bits of a table row, numbered as the opcode table numbers them. -/
theorem test_table_words :
    decodeTableWord 24 0xC2346D = some (.adcAbs 0xC234#16) ∧ decodeTableWord 16 0x9C69 = some (.adcImm 0x9C#8) ∧
    decodeTableWord 8 0x00 = some .brk ∧ decodeTableWord 8 0x20 = some (.jsr 0x0000#16) := by decide

/-- A word cut short is rejected by name. -/
theorem test_truncated : decode [0x20#8, 0x23#8] = .error (.truncated 0x20#8) ∧ decode [0x69#8] = .error (.truncated 0x69#8) := ⟨rfl, rfl⟩

/-! Well-formedness: for each check an ill-formed term that it refuses -/

theorem test_wf_no_prg_bank : ¬ Cart.wf { Cart.blank with prgBanks := 0 } := by decide
theorem test_wf_too_many_prg_banks : ¬ Cart.wf { Cart.blank with prgBanks := 256 } := by decide
theorem test_wf_too_many_chr_banks : ¬ Cart.wf { Cart.blank with chrBanks := 256 } := by decide
theorem test_wf_mirroring_not_in_header : ¬ Cart.wf { Cart.blank with mirroring := .singleLow } := by decide
theorem test_wf_no_prg_ram_unit : ¬ Cart.wf { Cart.blank with prgRamUnits := 0 } := by decide
theorem test_wf_prg_past_end : ¬ Cart.wf { Cart.blank with prg := [(16384, 0x01#8)] } := by decide
theorem test_wf_chr_without_bank : ¬ Cart.wf { Cart.blank with chr := [(0, 0x01#8)] } := by decide
theorem test_wf_memory_zero_entry : ¬ Memory.wf ramSize [(0, 0x00#8)] := by decide
theorem test_wf_memory_not_rising : ¬ Memory.wf ramSize [(5, 0x01#8), (5, 0x02#8)] := by decide
theorem test_wf_launch_ram_too_big : ¬ Launch.wf { Launch.blank with ramInit := [(2048, 0x01#8)] } := by decide
theorem test_wf_launch_wram_too_big : ¬ Launch.wf { Launch.blank with wramInit := [(8192, 0x01#8)] } := by decide
theorem test_wf_launch_colours : ¬ Launch.wf { Launch.blank with cfg := { Launch.blank.cfg with colours := [(64, 0x01#24)] } } := by decide
theorem test_wf_blank : Launch.wf Launch.blank := by decide

/-! Instructions: the spec's example of each rule -/

/-- The reset state with other CPU registers and RAM. -/
def cpu (a x y s p : Byte) (pc : Addr) (ram : Memory 8) : State :=
  { State.reset with a := a, x := x, y := y, s := s, p := p, pc := pc, ram := ram }

/-- The outcome is a next state with the CPU registers of `e`, `owed` cycles owed, and the bytes named. -/
def leaves (r : Result) (e : State) (owed : Nat) (bytes : List (Addr × Byte)) : Bool :=
  match r with
  | .next t => t.a == e.a && t.x == e.x && t.y == e.y && t.s == e.s && t.p == e.p && t.pc == e.pc && t.idle == owed &&
      bytes.all fun c => peek c.1 t == c.2
  | _ => false

/-- 40_load_store_transfer.md R161. -/
theorem test_lda_negative :
    leaves (exec (.ldaImm 0x80#8) (cpu 0x00#8 0x00#8 0x00#8 0xFD#8 0x24#8 0x8002#16 []))
      (cpu 0x80#8 0x00#8 0x00#8 0xFD#8 0xA4#8 0x8002#16 []) 1 [] = true := by decide

/-- 40_load_store_transfer.md R162. -/
theorem test_ldx_zpy_wraps :
    leaves (exec (.ldxZpy 0x10#8) (cpu 0x00#8 0x05#8 0xF8#8 0xFD#8 0x24#8 0x8002#16 []))
      (cpu 0x00#8 0x00#8 0xF8#8 0xFD#8 0x26#8 0x8002#16 []) 3 [] = true := by decide

/-- 40_load_store_transfer.md R163. -/
theorem test_ldy_abx_crosses :
    leaves (exec (.ldyAbx 0x12FF#16) (cpu 0x00#8 0x01#8 0x00#8 0xFD#8 0x24#8 0x8003#16 [(0x300, 0x7F#8)]))
      (cpu 0x00#8 0x01#8 0x7F#8 0xFD#8 0x24#8 0x8003#16 []) 4 [] = true := by decide

/-- 40_load_store_transfer.md R164. -/
theorem test_sta_abx :
    leaves (exec (.staAbx 0x0200#16) (cpu 0x55#8 0x10#8 0x00#8 0xFD#8 0x26#8 0x8002#16 []))
      (cpu 0x55#8 0x10#8 0x00#8 0xFD#8 0x26#8 0x8002#16 []) 4 [(0x210#16, 0x55#8)] = true := by decide

/-- 40_load_store_transfer.md R165. -/
theorem test_stx_zp :
    leaves (exec (.stxZp 0x00#8) (cpu 0x00#8 0xFF#8 0x00#8 0xFD#8 0x24#8 0x8002#16 []))
      (cpu 0x00#8 0xFF#8 0x00#8 0xFD#8 0x24#8 0x8002#16 []) 2 [(0x000#16, 0xFF#8)] = true := by decide

/-- 40_load_store_transfer.md R166. -/
theorem test_sty_zpx :
    leaves (exec (.styZpx 0xF0#8) (cpu 0x00#8 0x20#8 0x21#8 0xFD#8 0x24#8 0x8002#16 []))
      (cpu 0x00#8 0x20#8 0x21#8 0xFD#8 0x24#8 0x8002#16 []) 3 [(0x010#16, 0x21#8), (0x110#16, 0x00#8)] = true := by decide

/-- 40_load_store_transfer.md R167. -/
theorem test_tax :
    leaves (exec (.tax) (cpu 0x80#8 0x00#8 0x00#8 0xFD#8 0x24#8 0x8002#16 []))
      (cpu 0x80#8 0x80#8 0x00#8 0xFD#8 0xA4#8 0x8002#16 []) 1 [] = true := by decide

/-- 40_load_store_transfer.md R168. -/
theorem test_tay :
    leaves (exec (.tay) (cpu 0x00#8 0x00#8 0x09#8 0xFD#8 0x24#8 0x8002#16 []))
      (cpu 0x00#8 0x00#8 0x00#8 0xFD#8 0x26#8 0x8002#16 []) 1 [] = true := by decide

/-- 40_load_store_transfer.md R169. -/
theorem test_txa :
    leaves (exec (.txa) (cpu 0x01#8 0x7F#8 0x00#8 0xFD#8 0x24#8 0x8002#16 []))
      (cpu 0x7F#8 0x7F#8 0x00#8 0xFD#8 0x24#8 0x8002#16 []) 1 [] = true := by decide

/-- 40_load_store_transfer.md R170. -/
theorem test_tya :
    leaves (exec (.tya) (cpu 0x00#8 0x00#8 0xFF#8 0xFD#8 0x24#8 0x8002#16 []))
      (cpu 0xFF#8 0x00#8 0xFF#8 0xFD#8 0xA4#8 0x8002#16 []) 1 [] = true := by decide

/-- 40_load_store_transfer.md R171. -/
theorem test_tsx :
    leaves (exec (.tsx) (cpu 0x00#8 0x00#8 0x00#8 0xFD#8 0x24#8 0x8002#16 []))
      (cpu 0x00#8 0xFD#8 0x00#8 0xFD#8 0xA4#8 0x8002#16 []) 1 [] = true := by decide

/-- 40_load_store_transfer.md R172. -/
theorem test_txs_no_flags :
    leaves (exec (.txs) (cpu 0x00#8 0xFF#8 0x00#8 0xFD#8 0x26#8 0x8002#16 []))
      (cpu 0x00#8 0xFF#8 0x00#8 0xFF#8 0x26#8 0x8002#16 []) 1 [] = true := by decide

/-- 41_arith_logic.md R180. -/
theorem test_adc_overflow :
    leaves (exec (.adcImm 0x01#8) (cpu 0x7F#8 0x00#8 0x00#8 0xFD#8 0x24#8 0x8002#16 []))
      (cpu 0x80#8 0x00#8 0x00#8 0xFD#8 0xE4#8 0x8002#16 []) 1 [] = true := by decide

/-- 41_arith_logic.md R180. -/
theorem test_adc_carry_alone :
    leaves (exec (.adcImm 0x00#8) (cpu 0x7F#8 0x00#8 0x00#8 0xFD#8 0x25#8 0x8002#16 []))
      (cpu 0x80#8 0x00#8 0x00#8 0xFD#8 0xE4#8 0x8002#16 []) 1 [] = true := by decide

/-- 41_arith_logic.md R181. -/
theorem test_sbc_overflow :
    leaves (exec (.sbcImm 0x01#8) (cpu 0x80#8 0x00#8 0x00#8 0xFD#8 0x25#8 0x8002#16 []))
      (cpu 0x7F#8 0x00#8 0x00#8 0xFD#8 0x65#8 0x8002#16 []) 1 [] = true := by decide

/-- 41_arith_logic.md R182. -/
theorem test_and_zero :
    leaves (exec (.andImm 0x0F#8) (cpu 0xF0#8 0x00#8 0x00#8 0xFD#8 0x24#8 0x8002#16 []))
      (cpu 0x00#8 0x00#8 0x00#8 0xFD#8 0x26#8 0x8002#16 []) 1 [] = true := by decide

/-- 41_arith_logic.md R183. -/
theorem test_ora_zp :
    leaves (exec (.oraZp 0x10#8) (cpu 0x01#8 0x00#8 0x00#8 0xFD#8 0x24#8 0x8002#16 [(0x010, 0x80#8)]))
      (cpu 0x81#8 0x00#8 0x00#8 0xFD#8 0xA4#8 0x8002#16 []) 2 [] = true := by decide

/-- 41_arith_logic.md R184. -/
theorem test_eor_imm :
    leaves (exec (.eorImm 0xFF#8) (cpu 0x55#8 0x00#8 0x00#8 0xFD#8 0x24#8 0x8002#16 []))
      (cpu 0xAA#8 0x00#8 0x00#8 0xFD#8 0xA4#8 0x8002#16 []) 1 [] = true := by decide

/-- 41_arith_logic.md R185. -/
theorem test_cmp_equal :
    leaves (exec (.cmpImm 0x40#8) (cpu 0x40#8 0x00#8 0x00#8 0xFD#8 0x24#8 0x8002#16 []))
      (cpu 0x40#8 0x00#8 0x00#8 0xFD#8 0x27#8 0x8002#16 []) 1 [] = true := by decide

/-- 41_arith_logic.md R186. -/
theorem test_cpx_less :
    leaves (exec (.cpxImm 0x10#8) (cpu 0x00#8 0x0F#8 0x00#8 0xFD#8 0x25#8 0x8002#16 []))
      (cpu 0x00#8 0x0F#8 0x00#8 0xFD#8 0xA4#8 0x8002#16 []) 1 [] = true := by decide

/-- 41_arith_logic.md R187. -/
theorem test_cpy_zp :
    leaves (exec (.cpyZp 0x20#8) (cpu 0x00#8 0x00#8 0xFF#8 0xFD#8 0x24#8 0x8002#16 [(0x020, 0x01#8)]))
      (cpu 0x00#8 0x00#8 0xFF#8 0xFD#8 0xA5#8 0x8002#16 []) 2 [] = true := by decide

/-- 41_arith_logic.md R188. -/
theorem test_bit_zp :
    leaves (exec (.bitZp 0x10#8) (cpu 0x01#8 0x00#8 0x00#8 0xFD#8 0x24#8 0x8002#16 [(0x010, 0xC2#8)]))
      (cpu 0x01#8 0x00#8 0x00#8 0xFD#8 0xE6#8 0x8002#16 []) 2 [] = true := by decide

/-- 41_arith_logic.md R189. -/
theorem test_inc_wraps :
    leaves (exec (.incZp 0x10#8) (cpu 0x00#8 0x00#8 0x00#8 0xFD#8 0x24#8 0x8002#16 [(0x010, 0xFF#8)]))
      (cpu 0x00#8 0x00#8 0x00#8 0xFD#8 0x26#8 0x8002#16 []) 4 [(0x010#16, 0x00#8)] = true := by decide

/-- 41_arith_logic.md R190. -/
theorem test_dec_abs :
    leaves (exec (.decAbs 0x0300#16) (cpu 0x00#8 0x00#8 0x00#8 0xFD#8 0x24#8 0x8003#16 [(0x300, 0x01#8)]))
      (cpu 0x00#8 0x00#8 0x00#8 0xFD#8 0x26#8 0x8003#16 []) 5 [(0x300#16, 0x00#8)] = true := by decide

/-- 41_arith_logic.md R191. -/
theorem test_inx_wraps :
    leaves (exec (.inx) (cpu 0x00#8 0xFF#8 0x00#8 0xFD#8 0x25#8 0x8002#16 []))
      (cpu 0x00#8 0x00#8 0x00#8 0xFD#8 0x27#8 0x8002#16 []) 1 [] = true := by decide

/-- 41_arith_logic.md R192. -/
theorem test_iny :
    leaves (exec (.iny) (cpu 0x00#8 0x00#8 0x7F#8 0xFD#8 0x24#8 0x8002#16 []))
      (cpu 0x00#8 0x00#8 0x80#8 0xFD#8 0xA4#8 0x8002#16 []) 1 [] = true := by decide

/-- 41_arith_logic.md R193. -/
theorem test_dex :
    leaves (exec (.dex) (cpu 0x00#8 0x01#8 0x00#8 0xFD#8 0x24#8 0x8002#16 []))
      (cpu 0x00#8 0x00#8 0x00#8 0xFD#8 0x26#8 0x8002#16 []) 1 [] = true := by decide

/-- 41_arith_logic.md R194. -/
theorem test_dey_wraps :
    leaves (exec (.dey) (cpu 0x00#8 0x00#8 0x00#8 0xFD#8 0x24#8 0x8002#16 []))
      (cpu 0x00#8 0x00#8 0xFF#8 0xFD#8 0xA4#8 0x8002#16 []) 1 [] = true := by decide

/-- 42_shift_rotate.md R200. -/
theorem test_asl_acc :
    leaves (exec (.aslAcc) (cpu 0x81#8 0x00#8 0x00#8 0xFD#8 0x24#8 0x8002#16 []))
      (cpu 0x02#8 0x00#8 0x00#8 0xFD#8 0x25#8 0x8002#16 []) 1 [] = true := by decide

/-- 42_shift_rotate.md R201. -/
theorem test_lsr_zp :
    leaves (exec (.lsrZp 0x10#8) (cpu 0x00#8 0x00#8 0x00#8 0xFD#8 0x24#8 0x8002#16 [(0x010, 0x01#8)]))
      (cpu 0x00#8 0x00#8 0x00#8 0xFD#8 0x27#8 0x8002#16 []) 4 [(0x010#16, 0x00#8)] = true := by decide

/-- 42_shift_rotate.md R202. -/
theorem test_rol_acc :
    leaves (exec (.rolAcc) (cpu 0x40#8 0x00#8 0x00#8 0xFD#8 0x25#8 0x8002#16 []))
      (cpu 0x81#8 0x00#8 0x00#8 0xFD#8 0xA4#8 0x8002#16 []) 1 [] = true := by decide

/-- 42_shift_rotate.md R203. -/
theorem test_ror_abx :
    leaves (exec (.rorAbx 0x0200#16) (cpu 0x00#8 0x00#8 0x00#8 0xFD#8 0x25#8 0x8002#16 [(0x200, 0x03#8)]))
      (cpu 0x00#8 0x00#8 0x00#8 0xFD#8 0xA5#8 0x8002#16 []) 6 [(0x200#16, 0x81#8)] = true := by decide

/-- 43_control_flow.md R210. -/
theorem test_jmp_ind_page_wrap :
    leaves (exec (.jmpInd 0x02FF#16) (cpu 0x00#8 0x00#8 0x00#8 0xFD#8 0x24#8 0x8002#16 [(0x200, 0x12#8), (0x2FF, 0x34#8), (0x300, 0x56#8)]))
      (cpu 0x00#8 0x00#8 0x00#8 0xFD#8 0x24#8 0x1234#16 []) 4 [] = true := by decide

/-- 43_control_flow.md R211. -/
theorem test_jsr :
    leaves (exec (.jsr 0xC123#16) (cpu 0x00#8 0x00#8 0x00#8 0xFD#8 0x24#8 0x8003#16 []))
      (cpu 0x00#8 0x00#8 0x00#8 0xFB#8 0x24#8 0xC123#16 []) 5 [(0x1FD#16, 0x80#8), (0x1FC#16, 0x02#8)] = true := by decide

/-- 43_control_flow.md R212. -/
theorem test_rts :
    leaves (exec (.rts) (cpu 0x00#8 0x00#8 0x00#8 0xFB#8 0x24#8 0x8002#16 [(0x1FC, 0x02#8), (0x1FD, 0x80#8)]))
      (cpu 0x00#8 0x00#8 0x00#8 0xFD#8 0x24#8 0x8003#16 []) 5 [] = true := by decide

/-- 43_control_flow.md R214. -/
theorem test_bcc_taken :
    leaves (exec (.bcc 0x05#8) (cpu 0x00#8 0x00#8 0x00#8 0xFD#8 0x24#8 0x8002#16 []))
      (cpu 0x00#8 0x00#8 0x00#8 0xFD#8 0x24#8 0x8007#16 []) 2 [] = true := by decide

/-- 43_control_flow.md R215. -/
theorem test_bcs_not_taken :
    leaves (exec (.bcs 0x05#8) (cpu 0x00#8 0x00#8 0x00#8 0xFD#8 0x24#8 0x8002#16 []))
      (cpu 0x00#8 0x00#8 0x00#8 0xFD#8 0x24#8 0x8002#16 []) 1 [] = true := by decide

/-- 43_control_flow.md R216. -/
theorem test_beq_back :
    leaves (exec (.beq 0xFD#8) (cpu 0x00#8 0x00#8 0x00#8 0xFD#8 0x26#8 0x8012#16 []))
      (cpu 0x00#8 0x00#8 0x00#8 0xFD#8 0x26#8 0x800F#16 []) 2 [] = true := by decide

/-- 43_control_flow.md R217. -/
theorem test_bne_crosses :
    leaves (exec (.bne 0xFD#8) (cpu 0x00#8 0x00#8 0x00#8 0xFD#8 0x24#8 0x8102#16 []))
      (cpu 0x00#8 0x00#8 0x00#8 0xFD#8 0x24#8 0x80FF#16 []) 3 [] = true := by decide

/-- 43_control_flow.md R218. -/
theorem test_bmi_taken :
    leaves (exec (.bmi 0x02#8) (cpu 0x00#8 0x00#8 0x00#8 0xFD#8 0xA4#8 0x8004#16 []))
      (cpu 0x00#8 0x00#8 0x00#8 0xFD#8 0xA4#8 0x8006#16 []) 2 [] = true := by decide

/-- 43_control_flow.md R219. -/
theorem test_bpl_back :
    leaves (exec (.bpl 0xFB#8) (cpu 0x00#8 0x00#8 0x00#8 0xFD#8 0x24#8 0x8005#16 []))
      (cpu 0x00#8 0x00#8 0x00#8 0xFD#8 0x24#8 0x8000#16 []) 2 [] = true := by decide

/-- 43_control_flow.md R220. -/
theorem test_bvc_not_taken :
    leaves (exec (.bvc 0x02#8) (cpu 0x00#8 0x00#8 0x00#8 0xFD#8 0x64#8 0x8002#16 []))
      (cpu 0x00#8 0x00#8 0x00#8 0xFD#8 0x64#8 0x8002#16 []) 1 [] = true := by decide

/-- 43_control_flow.md R221. -/
theorem test_bvs_taken :
    leaves (exec (.bvs 0x02#8) (cpu 0x00#8 0x00#8 0x00#8 0xFD#8 0x64#8 0x8002#16 []))
      (cpu 0x00#8 0x00#8 0x00#8 0xFD#8 0x64#8 0x8004#16 []) 2 [] = true := by decide

/-- 43_control_flow.md R222, vector bytes zero. -/
theorem test_brk :
    leaves (exec (.brk) (cpu 0x00#8 0x00#8 0x00#8 0xFD#8 0x21#8 0x8001#16 []))
      (cpu 0x00#8 0x00#8 0x00#8 0xFA#8 0x25#8 0x0000#16 []) 6 [(0x1FD#16, 0x80#8), (0x1FC#16, 0x02#8), (0x1FB#16, 0x31#8)] = true := by decide

/-- 43_control_flow.md R223. -/
theorem test_rti :
    leaves (exec (.rti) (cpu 0x00#8 0x00#8 0x00#8 0xFA#8 0x24#8 0x9001#16 [(0x1FB, 0x35#8), (0x1FC, 0x02#8), (0x1FD, 0x80#8)]))
      (cpu 0x00#8 0x00#8 0x00#8 0xFD#8 0x25#8 0x8002#16 []) 5 [] = true := by decide

/-- 43_control_flow.md R224. -/
theorem test_nop :
    leaves (exec (.nop) (cpu 0x00#8 0x00#8 0x00#8 0xFD#8 0x24#8 0x8001#16 []))
      (cpu 0x00#8 0x00#8 0x00#8 0xFD#8 0x24#8 0x8001#16 []) 1 [] = true := by decide

/-- 44_stack_flags.md R230. -/
theorem test_pha :
    leaves (exec (.pha) (cpu 0x42#8 0x00#8 0x00#8 0xFD#8 0x24#8 0x8002#16 []))
      (cpu 0x42#8 0x00#8 0x00#8 0xFC#8 0x24#8 0x8002#16 []) 2 [(0x1FD#16, 0x42#8)] = true := by decide

/-- 44_stack_flags.md R231. -/
theorem test_php_after_reset :
    leaves (exec (.php) (cpu 0x00#8 0x00#8 0x00#8 0xFD#8 0x24#8 0x8002#16 []))
      (cpu 0x00#8 0x00#8 0x00#8 0xFC#8 0x24#8 0x8002#16 []) 2 [(0x1FD#16, 0x34#8)] = true := by decide

/-- 44_stack_flags.md R232. -/
theorem test_pla :
    leaves (exec (.pla) (cpu 0x00#8 0x00#8 0x00#8 0xFC#8 0xA6#8 0x8002#16 [(0x1FD, 0x42#8)]))
      (cpu 0x42#8 0x00#8 0x00#8 0xFD#8 0x24#8 0x8002#16 []) 3 [] = true := by decide

/-- 44_stack_flags.md R233. -/
theorem test_plp_all_ones :
    leaves (exec (.plp) (cpu 0x00#8 0x00#8 0x00#8 0xFC#8 0x24#8 0x8002#16 [(0x1FD, 0xFF#8)]))
      (cpu 0x00#8 0x00#8 0x00#8 0xFD#8 0xEF#8 0x8002#16 []) 3 [] = true := by decide

/-- 44_stack_flags.md R234. -/
theorem test_clc :
    leaves (exec (.clc) (cpu 0x00#8 0x00#8 0x00#8 0xFD#8 0x25#8 0x8002#16 []))
      (cpu 0x00#8 0x00#8 0x00#8 0xFD#8 0x24#8 0x8002#16 []) 1 [] = true := by decide

/-- 44_stack_flags.md R235. -/
theorem test_sec :
    leaves (exec (.sec) (cpu 0x00#8 0x00#8 0x00#8 0xFD#8 0x24#8 0x8002#16 []))
      (cpu 0x00#8 0x00#8 0x00#8 0xFD#8 0x25#8 0x8002#16 []) 1 [] = true := by decide

/-- 44_stack_flags.md R236. -/
theorem test_cli :
    leaves (exec (.cli) (cpu 0x00#8 0x00#8 0x00#8 0xFD#8 0x24#8 0x8002#16 []))
      (cpu 0x00#8 0x00#8 0x00#8 0xFD#8 0x20#8 0x8002#16 []) 1 [] = true := by decide

/-- 44_stack_flags.md R237. -/
theorem test_sei :
    leaves (exec (.sei) (cpu 0x00#8 0x00#8 0x00#8 0xFD#8 0x20#8 0x8002#16 []))
      (cpu 0x00#8 0x00#8 0x00#8 0xFD#8 0x24#8 0x8002#16 []) 1 [] = true := by decide

/-- 44_stack_flags.md R238. -/
theorem test_clv :
    leaves (exec (.clv) (cpu 0x00#8 0x00#8 0x00#8 0xFD#8 0x64#8 0x8002#16 []))
      (cpu 0x00#8 0x00#8 0x00#8 0xFD#8 0x24#8 0x8002#16 []) 1 [] = true := by decide

/-- 44_stack_flags.md R239. -/
theorem test_cld :
    leaves (exec (.cld) (cpu 0x00#8 0x00#8 0x00#8 0xFD#8 0x2C#8 0x8002#16 []))
      (cpu 0x00#8 0x00#8 0x00#8 0xFD#8 0x24#8 0x8002#16 []) 1 [] = true := by decide

/-- 44_stack_flags.md R240. -/
theorem test_sed :
    leaves (exec (.sed) (cpu 0x00#8 0x00#8 0x00#8 0xFD#8 0x24#8 0x8002#16 []))
      (cpu 0x00#8 0x00#8 0x00#8 0xFD#8 0x2C#8 0x8002#16 []) 1 [] = true := by decide

/-- 44_stack_flags.md R240. -/
theorem test_adc_ignores_decimal :
    leaves (exec (.adcImm 0x09#8) (cpu 0x09#8 0x00#8 0x00#8 0xFD#8 0x2C#8 0x8002#16 []))
      (cpu 0x12#8 0x00#8 0x00#8 0xFD#8 0x2C#8 0x8002#16 []) 1 [] = true := by decide

/-- 45_illegal.md R251. -/
theorem test_lax_zp :
    leaves (exec (.laxZp 0x10#8) (cpu 0x00#8 0x00#8 0x00#8 0xFD#8 0x24#8 0x8002#16 [(0x010, 0x80#8)]))
      (cpu 0x80#8 0x80#8 0x00#8 0xFD#8 0xA4#8 0x8002#16 []) 2 [] = true := by decide

/-- 45_illegal.md R252. -/
theorem test_sax_zp :
    leaves (exec (.saxZp 0x10#8) (cpu 0xF0#8 0x3C#8 0x00#8 0xFD#8 0xA7#8 0x8002#16 []))
      (cpu 0xF0#8 0x3C#8 0x00#8 0xFD#8 0xA7#8 0x8002#16 []) 2 [(0x010#16, 0x30#8)] = true := by decide

/-- 45_illegal.md R253. -/
theorem test_dcp_zp :
    leaves (exec (.dcpZp 0x10#8) (cpu 0x40#8 0x00#8 0x00#8 0xFD#8 0x24#8 0x8002#16 [(0x010, 0x41#8)]))
      (cpu 0x40#8 0x00#8 0x00#8 0xFD#8 0x27#8 0x8002#16 []) 4 [(0x010#16, 0x40#8)] = true := by decide

/-- 45_illegal.md R254. -/
theorem test_isb_zp :
    leaves (exec (.isbZp 0x10#8) (cpu 0x20#8 0x00#8 0x00#8 0xFD#8 0x25#8 0x8002#16 [(0x010, 0x0F#8)]))
      (cpu 0x10#8 0x00#8 0x00#8 0xFD#8 0x25#8 0x8002#16 []) 4 [(0x010#16, 0x10#8)] = true := by decide

/-- 45_illegal.md R255. -/
theorem test_slo_zp :
    leaves (exec (.sloZp 0x10#8) (cpu 0x01#8 0x00#8 0x00#8 0xFD#8 0x24#8 0x8002#16 [(0x010, 0x81#8)]))
      (cpu 0x03#8 0x00#8 0x00#8 0xFD#8 0x25#8 0x8002#16 []) 4 [(0x010#16, 0x02#8)] = true := by decide

/-- 45_illegal.md R256. -/
theorem test_rla_zp :
    leaves (exec (.rlaZp 0x10#8) (cpu 0xFF#8 0x00#8 0x00#8 0xFD#8 0x25#8 0x8002#16 [(0x010, 0x80#8)]))
      (cpu 0x01#8 0x00#8 0x00#8 0xFD#8 0x25#8 0x8002#16 []) 4 [(0x010#16, 0x01#8)] = true := by decide

/-- 45_illegal.md R257. -/
theorem test_sre_zp :
    leaves (exec (.sreZp 0x10#8) (cpu 0x01#8 0x00#8 0x00#8 0xFD#8 0x24#8 0x8002#16 [(0x010, 0x03#8)]))
      (cpu 0x00#8 0x00#8 0x00#8 0xFD#8 0x27#8 0x8002#16 []) 4 [(0x010#16, 0x01#8)] = true := by decide

/-- 45_illegal.md R258. -/
theorem test_rra_zp :
    leaves (exec (.rraZp 0x10#8) (cpu 0x10#8 0x00#8 0x00#8 0xFD#8 0x24#8 0x8002#16 [(0x010, 0x03#8)]))
      (cpu 0x12#8 0x00#8 0x00#8 0xFD#8 0x24#8 0x8002#16 []) 4 [(0x010#16, 0x01#8)] = true := by decide

/-- 45_illegal.md R262. -/
theorem test_hole_falls_through :
    leaves (exec (.hole02) (cpu 0x00#8 0x00#8 0x00#8 0xFD#8 0x24#8 0x8001#16 []))
      (cpu 0x00#8 0x00#8 0x00#8 0xFD#8 0x24#8 0x8001#16 []) 0 [] = true := by decide

/-- 41_arith_logic.md R188: BIT $2002 with vblank set. -/
theorem test_bit_ppustatus :
    (match exec (.bitAbs 0x2002#16) { State.reset with ppu := { State.reset.ppu with vblank := true } } with
      | .next t => t.p == 0xA6#8 && !t.ppu.vblank && t.idle == 3
      | _ => false) = true := by decide

/-! Devices: 95_test_vectors.md H2, H5 -/

/-- Several writes to the bus, first to last. -/
def pokes (l : List (Addr × Byte)) (s : State) : State := l.foldl (fun t c => memWrite c.1 c.2 t) s

/-- 95_test_vectors.md, PPUSCROLL pair $7D, $5E. -/
theorem test_scroll_pair :
    (let s := pokes [(0x2005#16, 0x7D#8), (0x2005#16, 0x5E#8)] State.reset
     s.ppu.t = 0x616F#15 ∧ s.ppu.x = 5#3 ∧ s.ppu.w = false ∧ s.ppu.v = 0#15) := by decide

/-- 51_ppu.md R358, R360, R361: address, write, and the buffered read back. -/
theorem test_ppudata :
    (let s := pokes [(0x2006#16, 0x21#8), (0x2006#16, 0x08#8), (0x2007#16, 0xAA#8), (0x2006#16, 0x21#8), (0x2006#16, 0x08#8)] State.reset
     let r := memRead 0x2007#16 s
     r.1 = 0x00#8 ∧ peek 0x2007#16 r.2 = 0xAA#8 ∧ r.2.ppu.v = 0x2109#15) := by decide

/-- 20_memory.md R103, 51_ppu.md R360: the palette keeps six bits, and entry $10 is entry 0. -/
theorem test_palette_alias :
    (let s := pokes [(0x2006#16, 0x3F#8), (0x2006#16, 0x10#8), (0x2007#16, 0xFF#8)] State.reset
     s.ppu.palette = [(0, 0x3F#6)]) := by decide

/-- 20_memory.md R74, R77. -/
theorem test_bus :
    peek 0x1801#16 (pokes [(0x0001#16, 0x77#8)] State.reset) = 0x77#8 ∧ peek 0x5000#16 (pokes [(0x5000#16, 0x77#8)] State.reset) = 0x00#8 ∧
    peek 0x6123#16 (pokes [(0x6123#16, 0x77#8)] State.reset) = 0x77#8 := by decide

/-- 50_bus_devices.md R321: the alignment cycles from an even and an odd cycle. -/
theorem test_dma_start :
    (memWrite 0x4014#16 0x02#8 State.reset).dma.dummy = 1 ∧ (memWrite 0x4014#16 0x02#8 { State.reset with cycles := 7#64 }).dma.dummy = 2 := by
  decide

/-- 51_ppu.md R373: (241,1) latches NMI when PPUCTRL bit 7 is set. -/
theorem test_vblank_nmi :
    (vblankStart { State.reset with ppu := { State.reset.ppu with ctrl := 0x80#8 } }).nmiPending = true ∧
    (vblankStart State.reset).nmiPending = false := by decide

/-- 51_ppu.md R381: the last dot of a frame. -/
theorem test_frame_wraps :
    (advance { State.reset.ppu with scanline := 261, dot := 340 }).scanline = 0 ∧
    (advance { State.reset.ppu with scanline := 261, dot := 340 }).dot = 0 := by decide

/-- 51_ppu.md R394, R395: the nametable switches of coarse X 31 and of row 29. -/
theorem test_scroll_increments : incX 0x001F#15 = 0x0400#15 ∧ incY 0x73A0#15 = 0x0800#15 ∧ incY 0x73E0#15 = 0x0000#15 := by decide

/-- `withFetchWord`: the next step fetches and runs the instruction of a table word. -/
theorem test_withFetchWord :
    (let s := State.reset.withFetchWord 16 0x80A9
     s.pc = 0x0000#16 ∧ (fetchInstr s).1 = .ldaImm 0x80#8 ∧ cpuSlot (hostTurn s) = executeInstruction s) := by
  refine ⟨rfl, rfl, rfl⟩

/-! Witnesses: states and operands that meet the hypotheses of the obligations -/

/-- A running machine: `LDA #$80` at $0200 in RAM. -/
def running : State :=
  { State.reset with pc := 0x0200#16, a := 0x11#8, x := 0x01#8, ram := [(0x10, 0x80#8), (0x200, 0xA9#8), (0x201, 0x80#8)] }

/-- A machine with another mapper. -/
def withMapper (k : MapperKind) : State :=
  { State.reset with mapper := mapperReset k, cfg := { State.reset.cfg with cart := { Cart.blank with mapper := k } } }

/-- A machine with the PPU at a position. -/
def atDot (line dot : Nat) : State := { State.reset with ppu := { State.reset.ppu with scanline := line, dot := dot } }

theorem running_inv : Inv running where
  status := by decide
  counters := by decide
  position := by decide
  sprites := by decide
  memories := by decide
  mapper := by decide
  mirroring := by decide
  cart := by decide
  colours := by decide

/-- A step from any state of which the CPU slot answers. -/
theorem step_answers (s : State) (t : State) (h : cpuSlot (apuStep (hostTurn s)) = .next t) : step s = .next (finishTick t) := by
  unfold step tick
  rw [h]

theorem witness_DecodeIsTotal : ∃ i, decode [0xA9#8, 0x80#8, 0x01#8] = .ok (i, [0x01#8]) := ⟨.ldaImm 0x80#8, rfl⟩

theorem witness_StepRuns :
    hostTurn running = running ∧ running.dma.active = false ∧ running.idle = 0 ∧ running.nmiPending = false ∧ running.irqPending = false ∧
    quiet running.pc ∧ quiet (running.pc + 1#16) ∧ quiet (running.pc + 2#16) ∧
    decode [peek running.pc running, peek (running.pc + 1#16) running, peek (running.pc + 2#16) running] = .ok (.ldaImm 0x80#8, [0x00#8]) :=
  ⟨rfl, rfl, rfl, rfl, rfl, Or.inl (by decide), Or.inl (by decide), Or.inl (by decide), rfl⟩

/-- Each clause: nothing added, the page-cross cycle, a branch not taken, taken inside its page, taken to another. -/
theorem witness_Cycles :
    (∃ t, exec (.ldaAbx 0x0200#16) running = .next t ∧ t.idle + 1 = 4) ∧ (∃ t, exec (.ldaAbx 0x02FF#16) running = .next t ∧ t.idle + 1 = 5) ∧
    (∃ t, exec (.bcs 0x05#8) running = .next t ∧ t.idle + 1 = 2) ∧ (∃ t, exec (.bcc 0x05#8) running = .next t ∧ t.idle + 1 = 3) ∧
    (∃ t, exec (.bcc 0xFF#8) running = .next t ∧ t.idle + 1 = 4) :=
  ⟨⟨_, rfl, rfl⟩, ⟨_, rfl, rfl⟩, ⟨_, rfl, rfl⟩, ⟨_, rfl, rfl⟩, ⟨_, rfl, rfl⟩⟩

theorem witness_NoStepChangesTheConfiguration : ∃ t, step running = .next t :=
  (cpuSlot_next running).elim fun t h => ⟨_, step_answers running t h⟩

theorem witness_StepCounts : positionOk (hostTurn running).ppu ∧ ∃ t, step running = .next t :=
  ⟨by decide, witness_NoStepChangesTheConfiguration⟩

theorem witness_PowerUp : Launch.wf { Launch.blank with ramInit := [(0, 0x05#8), (2047, 0x06#8)], wramInit := [(8191, 0x07#8)] } := by decide

theorem witness_EveryStepKeepsTheInvariant : Inv running ∧ ∃ t, step running = .next t :=
  ⟨running_inv, witness_NoStepChangesTheConfiguration⟩

/-- The form lists name every form of the opcode table: 72 loads, arithmetic and compares, 21 stores, 70 read-modify-writes, 53 holes. -/
theorem witness_forms (nn : Byte) (w : Addr) :
    ([ldaForms nn w, ldxForms nn w, ldyForms nn w, adcForms nn w, sbcForms nn w, andForms nn w, oraForms nn w, eorForms nn w, cmpForms nn w,
      cpxForms nn w, cpyForms nn w, bitForms nn w, laxForms nn w].map List.length) = [8, 5, 5, 8, 8, 8, 8, 8, 8, 3, 3, 2, 6] ∧
    ([staForms nn w, stxForms nn w, styForms nn w, saxForms nn w].map List.length) = [7, 3, 3, 4] ∧
    ([incForms nn w, decForms nn w, aslForms nn w, lsrForms nn w, rolForms nn w, rorForms nn w].map List.length) = [4, 4, 4, 4, 4, 4] ∧
    ([dcpForms nn w, isbForms nn w, sloForms nn w, rlaForms nn w, sreForms nn w, rraForms nn w].map List.length) = [7, 7, 7, 7, 7, 7] ∧
    holeForms.length = 53 := ⟨rfl, rfl, rfl, rfl, rfl⟩

/-- An instruction outside every writer list, and the two shifts of `A` and of memory. -/
theorem witness_Registers :
    (∃ t, exec .nop running = .next t) ∧
    decide (Op.nop ∉ writersA ∧ Op.nop ∉ writersX ∧ Op.nop ∉ writersY ∧ Op.nop ∉ writersS ∧ Op.nop ∉ writersPc) = true ∧
    Instr.op .nop = .nop ∧ (Instr.aslZp 0x10#8).op = .asl ∧ (Instr.aslZp 0x10#8).mode = .zp ∧ Instr.aslAcc.mode = .acc :=
  ⟨exec_next _ _, by decide, rfl, rfl, rfl, rfl⟩

theorem witness_Flags :
    (∃ t, exec .nop running = .next t) ∧ (flagWriters.all fun f => decide (Op.nop ∉ f.2)) = true ∧ running.p &&& 0x30#8 = 0x20#8 :=
  ⟨exec_next _ _, by decide, by decide⟩

/-- A read of plain memory, a read of a PPU register, an accumulator form. -/
theorem witness_NonStoring :
    (∃ t, exec (.ldaAbs 0x1FFF#16) running = .next t) ∧ (∃ t, exec (.ldaAbs 0x2002#16) running = .next t) ∧
    (∃ t, exec .aslAcc running = .next t) ∧ (Instr.ldaAbs 0x1FFF#16).op = .lda ∧ decide (Op.lda ∉ storing ∧ Op.lda ∉ pushing) = true ∧
    dataReads (.ldaAbs 0x1FFF#16) running = [0x1FFF#16] ∧ quiet 0x1FFF#16 ∧
    quiet 0x4000#16 ∧ quiet 0x4017#16 ∧ ¬ quiet 0x2000#16 ∧ ¬ quiet 0x3FFF#16 ∧ ¬ quiet 0x4016#16 := by
  refine ⟨exec_next _ _, exec_next _ _, exec_next _ _, rfl, by decide, rfl, ?_⟩
  unfold quiet
  decide

/-- A store at each boundary of the bus map. -/
theorem witness_Storing :
    ([0x0000#16, 0x1FFF#16, 0x2000#16, 0x3FFF#16, 0x4000#16, 0x4014#16, 0x4016#16, 0x4017#16, 0x4018#16, 0x5FFF#16, 0x6000#16, 0x7FFF#16,
      0x8000#16, 0xFFFF#16].all fun e => decide (dataAddr (.staAbs e) running = some e) && decide ((Instr.staAbs e).op ∈ storing)) = true ∧
    (∃ t, exec (.staAbs 0x8000#16) (withMapper .sxrom) = .next t) ∧ ¬ touched 0x0000#16 0x0001#16 running ∧
    touched 0x0000#16 0x1800#16 running :=
  ⟨by decide, exec_next _ _, by unfold touched; decide, by unfold touched; decide⟩

theorem witness_Pushing :
    Instr.op .pha = .pha ∧ Instr.op .php = .php ∧ (Instr.jsr 0x1234#16).op = .jsr ∧ Instr.op .brk = .brk ∧
    (∀ i ∈ [Instr.pha, .php, .jsr 0x1234#16, .brk], ∃ t, exec i running = .next t) ∧
    (0x0000#16 : Addr).toNat % 2048 ≠ (stackAddr running.s).toNat :=
  ⟨rfl, rfl, rfl, rfl, fun i _ => exec_next i running, by decide⟩

theorem witness_RamIsMirrored : (0x1FFF#16 : Addr) ≤ 0x1FFF#16 ∧ (0x07FF#16 : Addr) ≤ 0x1FFF#16 ∧
    (0x07FF#16 : Addr).toNat % 2048 = (0x1FFF#16 : Addr).toNat % 2048 := by decide

/-- The ends of each range of the clauses. -/
theorem witness_WramApu :
    ((0x6000#16 : Addr) ≤ 0x6000#16 ∧ (0x7FFF#16 : Addr) < 0x8000#16) ∧
    ((0x4000#16 : Addr) ≤ 0x4015#16 ∧ (0x4015#16 : Addr) ≤ 0x4015#16 ∧ (0x4017#16 : Addr) ≤ 0x4017#16 ∧ (0x5FFF#16 : Addr) < 0x6000#16) ∧
    ((0x4018#16 : Addr) ≤ 0x4018#16 ∧ (0x4000#16 : Addr) ≤ 0x4013#16) := by decide

theorem witness_StackPairs :
    running.p &&& 0x30#8 = 0x20#8 ∧
    ∀ i ∈ [(Instr.pha, Instr.pla), (.php, .plp), (.jsr 0x1234#16, .rts)], ∃ t u, exec i.1 running = .next t ∧ exec i.2 t = .next u :=
  ⟨by decide, fun i _ => (exec_next i.1 running).elim fun t h => (exec_next i.2 t).elim fun u h' => ⟨t, u, h, h'⟩⟩

theorem witness_Nrom :
    running.mapper = .nrom ∧ running.cfg.cart.prgBanks = 1 ∧ 16383 < 16384 ∧
    ({ running with cfg := { running.cfg with cart := { Cart.blank with prgBanks := 2 } } } : State).cfg.cart.prgBanks = 2 := by decide

/-- A cartridge of four 16 KiB PRG banks and two of CHR. -/
def banked (m : Mapper) : State :=
  { State.reset with mapper := m, cfg := { State.reset.cfg with cart := { Cart.blank with prgBanks := 4, chrBanks := 2, mapper := mapperKind m } } }

/-- Every row of the window tables of 52_mappers.md R473, R474, R493, R494, by hand: where each window begins in the ROM data. -/
theorem test_bank_views :
    (let sx := fun c : BitVec 5 => banked (.sxrom { shift := 0, count := 0, control := c, chr0 := 3, chr1 := 6, prg := 0x15 })
     ([0x00#5, 0x07#5, 0x0B#5, 0x0F#5].map fun c => (prgView (sx c)).map fun w => w.2.2) =
       [[0x0000, 0x4000], [0x0000, 0x4000], [0x0000, 0x4000], [0x4000, 0xC000]] ∧
     ([0x0F#5, 0x1F#5].map fun c => (chrView (sx c)).map fun w => w.2.2) = [[0x2000, 0x3000], [0x3000, 0x2000]]) ∧
    (let tx := fun b : Byte => banked (.txrom { TxRegs.reset with
       select := b, r := [(0, 5#8), (1, 2#8), (2, 9#8), (3, 10#8), (4, 11#8), (5, 18#8), (6, 3#8), (7, 13#8)] })
     ([0x00#8, 0x40#8].map fun b => (prgView (tx b)).map fun w => w.2.2 / 8192) = [[3, 5, 6, 7], [6, 5, 3, 7]] ∧
     ([0x00#8, 0x80#8].map fun b => (chrView (tx b)).map fun w => w.2.2 / 1024) = [[4, 5, 2, 3, 9, 10, 11, 2], [9, 10, 11, 2, 4, 5, 2, 3]]) := by
  decide

/-- A PRG bank for each mapper, a window on each side at its last byte, the last addresses, CHR RAM and CHR ROM. -/
theorem witness_BankView :
    (∀ k ∈ [MapperKind.nrom, .sxrom, .txrom], 1 ≤ (withMapper k).cfg.cart.prgBanks ∧ (withMapper k).cfg.cart.chrBanks = 0 ∧
      1 ≤ (banked (mapperReset k)).cfg.cart.prgBanks ∧ (banked (mapperReset k)).cfg.cart.chrBanks ≠ 0) ∧
    (∀ k ∈ [MapperKind.nrom, .sxrom, .txrom], ∃ w ∈ prgView (withMapper k), 8191 < w.2.1) ∧
    (∀ k ∈ [MapperKind.nrom, .sxrom, .txrom], ∃ w ∈ chrView (withMapper k), 1023 < w.2.1) ∧ 0x8000 ≤ 0xFFFF ∧ 0x1FFF < 0x2000 := by
  refine ⟨?_, ?_, ?_, by decide, by decide⟩ <;> decide

theorem witness_ResetVector :
    Launch.wf Launch.blank ∧ (Launch.blank.cfg.cart.mapper = .nrom → Launch.blank.cfg.cart.prgBanks ≤ 2) := by decide

/-- Every register's range, both ends, from a fresh sequence; and the reset write. -/
theorem witness_SxromSerialPort :
    (withMapper .sxrom).mapper = .sxrom SxRegs.reset ∧ SxRegs.reset.count = 0 ∧ (0x7F#8 : Byte).getLsbD 7 = false ∧
    (0x80#8 : Byte).getLsbD 7 = true ∧ (0x8000#16 : Addr) ≤ 0x8000#16 ∧ (0x9FFF#16 : Addr) < 0xA000#16 ∧ (0xA000#16 : Addr) ≤ 0xBFFF#16 ∧
    (0xBFFF#16 : Addr) < 0xC000#16 ∧ (0xDFFF#16 : Addr) < 0xE000#16 ∧ (0xE000#16 : Addr) ≤ 0xFFFF#16 := by decide

/-- An address of each register, at the end of its range. -/
theorem witness_Txrom :
    (withMapper .txrom).mapper = .txrom TxRegs.reset ∧
    ([0x9FFE#16, 0x9FFF#16, 0xBFFE#16, 0xBFFF#16, 0xDFFE#16, 0xDFFF#16, 0xFFFE#16, 0xFFFF#16].map fun a : Addr => a &&& 0xE001#16) =
      [0x8000#16, 0x8001#16, 0xA000#16, 0xA001#16, 0xC000#16, 0xC001#16, 0xE000#16, 0xE001#16] := by decide

/-- A boundary with an NMI, one with an unmasked IRQ alone, one with a masked IRQ, one with cycles owed, one with a DMA in flight. -/
theorem witness_Latches :
    (let s := { running with nmiPending := true, irqPending := true }
     s.dma.active = false ∧ s.idle = 0 ∧ s.nmiPending = true) ∧
    (let s := { running with irqPending := true, p := 0x20#8 }
     s.dma.active = false ∧ s.idle = 0 ∧ s.nmiPending = false ∧ s.irqPending = true ∧ s.p.getLsbD 2 = false) ∧
    (let s := { running with irqPending := true }
     s.dma.active = false ∧ s.idle = 0 ∧ s.nmiPending = false ∧ s.p.getLsbD 2 = true) ∧
    (let s := { running with idle := 1 }
     s.dma.active = false ∧ 0 < s.idle) ∧
    (memWrite 0x4014#16 0x02#8 running).dma.active = true := by decide

theorem witness_InterruptEntry :
    (let s := { running with nmiPending := true }
     s.idle = 0 ∧ s.nmiPending = true) ∧
    (let s := { running with irqPending := true, p := 0x20#8 }
     s.idle = 0 ∧ s.nmiPending = false ∧ s.irqPending = true ∧ s.p.getLsbD 2 = false) := by decide

theorem witness_RtiUndoesAnEntry :
    running.p &&& 0x30#8 = 0x20#8 ∧ 0x6000#16 ≤ nmiVector ∧ 0x6000#16 ≤ irqVector ∧ (∃ u, exec .rti (interruptEntry nmiVector running) = .next u) ∧
    ∃ t u, exec .brk running = .next t ∧ exec .rti t = .next u :=
  ⟨by decide, by decide, by decide, exec_next _ _, (exec_next .brk running).elim fun t h => (exec_next .rti t).elim fun u h' => ⟨t, u, h, h'⟩⟩

/-- The ends of the plain pages and the device pages between them, both parities, an empty script, a DMA in flight. -/
theorem witness_Dma :
    ((0x1F#8 : Byte) < 0x20#8 ∧ (0x60#8 : Byte) ≤ 0x60#8 ∧ ¬(0x20#8 : Byte) < 0x20#8 ∧ ¬(0x60#8 : Byte) ≤ 0x5F#8) ∧
    running.cycles.getLsbD 0 = false ∧ ({ running with cycles := 7#64 } : State).cycles.getLsbD 0 = true ∧ running.host.script = [] ∧
    (hostTurn (memWrite 0x4014#16 0x20#8 running)).dma.active = true := by decide

/-- 50_bus_devices.md R322: a DMA from page $40 reads the controller port and shifts it, one from $20 reads PPUDATA and moves `v`. -/
theorem test_dma_from_devices :
    (moves 0x40#8 23 running).pad.cursor = 1 ∧ (moves 0x20#8 8 running).ppu.v = 1#15 ∧ (moves 0x1F#8 8 running).ppu.v = 0#15 := by decide

theorem witness_Controller : (0x01#8 : Byte).getLsbD 0 = true ∧ (0xFE#8 : Byte).getLsbD 0 = false ∧ 7 < 8 ∧ ¬ 8 < 8 := by decide

theorem witness_PpuStatus :
    (0x2000#16 : Addr) ≤ 0x2002#16 ∧ (0x3FFA#16 : Addr) ≤ 0x3FFF#16 ∧ (0x2002#16 : Addr).toNat % 8 = 2 ∧ (0x3FFA#16 : Addr).toNat % 8 = 2 := by
  decide

/-- The ports at the last mirror. -/
theorem witness_PpuPorts :
    (∀ i, i < 8 → 0x2000#16 ≤ BitVec.ofNat 16 (0x3FF8 + i) ∧ BitVec.ofNat 16 (0x3FF8 + i) ≤ 0x3FFF#16 ∧
      (BitVec.ofNat 16 (0x3FF8 + i)).toNat % 8 = i) ∧ running.ppu.w = false ∧ (memWrite 0x2005#16 0x00#8 running).ppu.w = true := by decide

/-- 51_ppu.md R357, R358, 70_reset_and_hazards.md R572: PPUADDR, PPUSCROLL, PPUSCROLL, PPUADDR through the shared latch, by hand. -/
theorem test_shared_latch :
    (let s := pokes [(0x2006#16, 0x04#8), (0x2005#16, 0x3E#8), (0x2005#16, 0x7D#8), (0x2006#16, 0xEF#8)] State.reset
     s.ppu.v = 0x64EF#15 ∧ s.ppu.x = 5#3 ∧ s.ppu.w = false) := by decide

/-- The port and its last mirror, `v` at the ends of each range, CHR RAM and CHR ROM. -/
theorem witness_PpuData :
    ([0x2007#16, 0x3FFF#16].all fun a : Addr => 0x2000#16 ≤ a && a ≤ 0x3FFF#16 && a.toNat % 8 == 7) = true ∧
    ((0x5FFF#15 : BitVec 15).toNat % 16384 < 0x2000) ∧ (0x2000 ≤ (0x2000#15 : BitVec 15).toNat % 16384) ∧
    ((0x3EFE#15 : BitVec 15) + 1#15).toNat % 16384 < 0x3F00 ∧ (0x3F00 ≤ (0x7F00#15 : BitVec 15).toNat % 16384) ∧
    running.cfg.cart.chrBanks = 0 ∧
    0 < ({ running with cfg := { running.cfg with cart := { Cart.blank with chrBanks := 1 } } } : State).cfg.cart.chrBanks := by decide

/-- Two names of one cell, and two cells, in each range. -/
theorem witness_PpuMemoriesMirror :
    ntCell .horizontal 0x2400 = ntCell .horizontal 0x2000 ∧ ntCell .horizontal 0x3EFF ≠ ntCell .horizontal 0x2000 ∧
    palCell 0x3F10 = palCell 0x3F00 ∧ palCell 0x3FFF ≠ palCell 0x3F00 := by decide

theorem witness_VblankStart :
    ((atDot 241 1).ppu.scanline = 241 ∧ (atDot 241 1).ppu.dot = 1) ∧ ¬((atDot 241 2).ppu.scanline = 241 ∧ (atDot 241 2).ppu.dot = 1) := by
  decide

theorem witness_PreRenderLine : (atDot 261 1).ppu.scanline = 261 ∧ (atDot 261 1).ppu.dot = 1 := by decide

theorem witness_DotAdvances :
    positionOk (atDot 261 340).ppu ∧ (atDot 261 340).ppu.dot = 340 ∧ positionOk (atDot 0 0).ppu ∧ (atDot 0 0).ppu.dot ≠ 340 := by decide

/-- A sprite slot whose column 0 is opaque. -/
def opaqueSlot : SpriteSlot := { y := 0, tile := 0, attr := 0, x := 0, patLo := 0x80#8, patHi := 0x80#8, isZero := true }

/-- The four cases, and an opaque slot behind a transparent one. -/
theorem witness_PixelPriority :
    ((0, 3).1 = 0 ∧ noSprite.pix = 0) ∧ ((1, 3).1 ≠ 0) ∧ (spritePixel 0 [opaqueSlot]).pix ≠ 0 ∧
    (∀ d ∈ [{ opaqueSlot with x := 9 }], slotPixel 0 d = 0) ∧ slotPixel 0 opaqueSlot ≠ 0 := by decide

/-- A line at each end of a sprite's range, in both sizes. -/
theorem witness_FetchAddresses :
    (opaqueSlot.y.toNat ≤ 0 ∧ 7 < opaqueSlot.y.toNat + 8) ∧ 15 < opaqueSlot.y.toNat + 16 := by decide

theorem witness_DotsDraw :
    ((atDot 239 256).ppu.scanline ≤ 239 ∧ 1 ≤ (atDot 239 256).ppu.dot ∧ (atDot 239 256).ppu.dot ≤ 256) ∧
    ((atDot 0 1).ppu.scanline ≤ 239 ∧ 1 ≤ (atDot 0 1).ppu.dot) ∧ ¬((atDot 240 1).ppu.scanline ≤ 239) ∧
    ¬(1 ≤ (atDot 0 0).ppu.dot) ∧ ¬((atDot 0 257).ppu.dot ≤ 256) ∧
    (running.ppu.mask.getLsbD 3 = false ∧ running.ppu.mask.getLsbD 4 = false) := by decide

/-- A machine at a dot with the background and the sprites shown. -/
def showing (line dot : Nat) : State :=
  let s := atDot line dot
  { s with ppu := { s.ppu with mask := 0x18#8 } }

/-- Rendering off, the lines off the render lines, and with rendering on each dot range of the background's schedule. -/
theorem witness_Scroll :
    (rendering running.ppu = false ∧ running.ppu.dot ≠ 340) ∧
    ([240, 260].all fun l => !((showing l 0).ppu.scanline ≤ 239 || (showing l 0).ppu.scanline == 261)) = true ∧
    ([0, 239, 261].all fun l => rendering (showing l 0).ppu && ((showing l 0).ppu.scanline ≤ 239 || (showing l 0).ppu.scanline == 261)) = true ∧
    (fetches 1 ∧ fetches 256 ∧ fetches 321 ∧ fetches 336 ∧ ¬ fetches 0 ∧ ¬ fetches 257 ∧ ¬ fetches 320 ∧ ¬ fetches 337) := by
  unfold fetches
  decide

/-- 51_ppu.md R390 to R392: dot 9 shifts, then reloads the low bytes; dot 8 steps coarse X; dot 257 reloads it from `t`. -/
theorem test_background_dots :
    (let s := showing 0 9
     (ppuDot { s with ppu := { s.ppu with shPatLo := 0x4081#16, bgLo := 0x3C#8, bgAt := 2#2 } }).ppu.shPatLo = 0x813C#16) ∧
    (ppuDot (showing 0 8)).ppu.v = 1#15 ∧
    (let s := showing 261 257
     (ppuDot { s with ppu := { s.ppu with v := 0x7BFF#15, t := 0x0405#15 } }).ppu.v = 0x7FE5#15) := by decide

/-- A visible line and another with rendering on, a visible line with it off, and the dots of the sprite schedule. -/
theorem witness_SpriteEvaluation :
    ((showing 239 257).ppu.scanline ≤ 239 ∧ rendering (showing 239 257).ppu = true) ∧ 239 < (showing 261 257).ppu.scanline ∧
    rendering (atDot 0 257).ppu = false ∧ (showing 0 261).ppu.dot = 261 + 8 * 0 ∧ (showing 0 319).ppu.dot = 263 + 8 * 7 ∧
    (∀ i, i < 8 → 262 ≠ 261 + 8 * i ∧ 262 ≠ 263 + 8 * i) ∧ (∀ i, i < 8 → 320 ≠ 261 + 8 * i ∧ 320 ≠ 263 + 8 * i) :=
  ⟨by decide, by decide, rfl, rfl, rfl, fun i _ => by omega, fun i _ => by omega⟩

/-- 51_ppu.md R410, R414: the first slot's low plane comes at dot 261 reversed, its high plane at dot 263 from 8 bytes on. -/
theorem test_sprite_fetch :
    (let at' := fun d => let s := showing 2 d
       { s with chrRam := [(0x52, 0x13#8), (0x5A, 0x70#8)],
                ppu := { s.ppu with sprNext := [{ opaqueSlot with tile := 5, attr := 0x40#8, patLo := 0, patHi := 0 }] } }
     ((ppuDot (at' 261)).ppu.sprNext.map fun e => (e.patLo, e.patHi)) = [(0xC8#8, 0x00#8)] ∧
     ((ppuDot (at' 263)).ppu.sprNext.map fun e => (e.patLo, e.patHi)) = [(0x00#8, 0x0E#8)]) := by decide

/-- No script, a turn with nothing in it, a turn of two operations: the buttons held when the port is strobed are the last ones set. -/
theorem witness_HostTurn :
    running.host.script = [] ∧ (hostTurn { running with host := { buttons := 0, script := [[], [.reset]] } }).host.script = [[.reset]] ∧
    (let s := hostTurn { running with host := { buttons := 0, script := [[.setButtons 1#8, .pullNmi, .setButtons 6#8]] } }
     s.host.buttons = 6#8 ∧ s.nmiPending = true ∧ s.irqPending = false ∧ s.host.script = []) ∧
    ∃ t, cpuSlot (hostTurn running) = .next t :=
  ⟨rfl, rfl, ⟨rfl, rfl, rfl, rfl⟩, cpuSlot_next _⟩

/-- 52_mappers.md R451: the PRG and CHR bytes follow the header, or the header and the trainer. -/
theorem test_file_bytes :
    (let file := fun b6 : Byte => [0x4E#8, 0x45#8, 0x53#8, 0x1A#8, 0x01#8, 0x00#8, b6] ++ List.replicate 9 0x00#8 ++ [0x77#8]
     Memory.read (cartOfFile (file 0x00#8) .nrom).prg 0 = 0x77#8 ∧ prgFileOffset (file 0x04#8) = 528 ∧
     (cartOfFile (file 0x00#8) .nrom).prgRamUnits = 1) := by decide

/-- Five header bytes and any zeros long enough make a file that loads. -/
theorem load_answers (z : List Byte) (hl : z.length = 16395) (hz : ∀ n, z.getD n 0x00#8 = 0x00#8) :
    ∃ t, loadFile (0x4E#8 :: 0x45#8 :: 0x53#8 :: 0x1A#8 :: 0x01#8 :: z) [] [] [] = .next t := by
  have h : ∀ n, fileByte (0x4E#8 :: 0x45#8 :: 0x53#8 :: 0x1A#8 :: 0x01#8 :: z) (n + 5) = 0x00#8 := fun n => by
    simpa only [fileByte, List.getD_cons_succ] using hz n
  have h4 : fileByte (0x4E#8 :: 0x45#8 :: 0x53#8 :: 0x1A#8 :: 0x01#8 :: z) 4 = 0x01#8 := rfl
  have h5 := h 0
  have h6 := h 1
  have h7 := h 2
  have h9 := h 4
  simp only [Nat.reduceAdd] at h5 h6 h7 h9
  simp [loadFile, mapperNumber, mapperOfNumber, prgFileOffset, prgFileSize, chrFileSize, prgBankSize, h4, h5, h6, h7, h9, hl]

/-- A file of one PRG bank of zeros loads, and an empty file is refused. -/
theorem witness_Load :
    (∃ t, loadFile (0x4E#8 :: 0x45#8 :: 0x53#8 :: 0x1A#8 :: 0x01#8 :: List.replicate 16395 0x00#8) [] [] [] = .next t) ∧
    loadFile [] [] [] [] = .refused .badMagic :=
  ⟨load_answers _ List.length_replicate (fun n => by
    rw [List.getD_eq_getElem?_getD, List.getElem?_replicate]
    split <;> rfl), rfl⟩

end Sys2Proof.Tests
end

section
/-! Every step answers a next state (00_scope.md R16). -/

namespace Sys2Proof.Machine

/-- What a tick does: the CPU slot answers, and the three dots and the cycle counter follow (50_bus_devices.md R300). -/
theorem tick_answers (s : State) : ∃ t, cpuSlot (apuStep s) = .next t ∧ tick s = .next (finishTick t) := by
  obtain ⟨t, ht⟩ := cpuSlot_next (apuStep s)
  refine ⟨t, ht, ?_⟩
  unfold tick
  rw [ht]

/-- Settles O6: a step is the host's turn and a tick, whose CPU slot answers because every instruction does (`exec_shape`). -/
theorem everyStepAnswersANextState : Obligations.EveryStepAnswersANextState := by
  refine ⟨fun s => ?_, exec_next⟩
  obtain ⟨t, -, hstep⟩ := tick_answers (hostTurn s)
  exact ⟨finishTick t, hstep⟩

end Sys2Proof.Machine
end

section
/-! Reads and writes of internal RAM through its mirrors (20_memory.md R74). -/

namespace Sys2Proof.Machine

/-- `memRead_at_ram` for the read without side effects. -/
theorem peek_at_ram {a : Addr} (h : a ≤ 0x1FFF#16) (s : State) : peek a s = Memory.read s.ram (a.toNat % 2048) := by
  rw [peek, memRead_at_ram h]

/-- Settles O34: both accesses take the cell `addr % 2048` of `ram`, so this is the read-after-write law of `Memory`. -/
theorem ramIsMirroredEvery2KiB : Obligations.RamIsMirroredEvery2KiB := by
  intro s a b v ha hb
  rw [peek_at_ram hb, peek_at_ram hb, memWrite_at_ram ha]
  exact Memory.read_write s.ram (a.toNat % 2048) (b.toNat % 2048) v

end Sys2Proof.Machine
end

section
/-! The read-class instruction forms (30_encoding.md R134, R136) and ADC (41_arith_logic.md R180). -/

namespace Sys2Proof.Machine

open Sys2Proof.Vocab

/-! The flag computations as the bit formulas of the statements -/

theorem putFlag_flagC : ∀ (b : Bool) (p : Byte), putFlag flagC b p = putC b p := by decide

theorem putFlag_flagV : ∀ (b : Bool) (p : Byte), putFlag flagV b p = putV b p := by decide

theorem setZN_eq (v : Byte) (s : State) : setZN v s = { s with p := nz v s.p } := by
  rw [nz, ← setZN_status]
  rfl

theorem carryIn_eq_carry : ∀ p : Byte, carryIn p = carry p := by decide

theorem carry_le_one (p : Byte) : carry p ≤ 1 := Nat.le_of_lt_succ (Nat.mod_lt p.toNat (by decide))

/-! Signed overflow -/

/-- The bit test of R180 compares signs: bit 7 of both operands against bit 7 of the result. -/
theorem overflowed_eq_msb (a m r : Byte) : overflowed a m r = ((a.msb != r.msb) && (m.msb != r.msb)) := by
  have hbit : ∀ b : Byte, (b &&& 0x80#8 != 0#8) = b.msb := by decide
  rw [overflowed, hbit, BitVec.msb_and, BitVec.msb_xor, BitVec.msb_xor]

/-- A sum whose sign differs from that of both operands is one that does not fit a byte. -/
theorem overflowed_sum9 (a m : Byte) {c : Nat} (hc : c ≤ 1) :
    overflowed a m (BitVec.ofNat 8 (sum9 a m c)) = outOfRange (a.toInt + m.toInt + c) := by
  have ha := a.isLt
  have hm := m.isLt
  simp only [overflowed_eq_msb, BitVec.msb_eq_decide, outOfRange, BitVec.toInt_eq_toNat_cond, BitVec.toNat_ofNat, sum9]
  rw [Bool.eq_iff_iff]
  simp only [Bool.and_eq_true, bne_iff_ne, ne_eq, decide_eq_decide, decide_eq_true_eq]
  split <;> split <;> omega

/-- ADC with any carry-in, for ADC itself and the instructions built on it (R180). -/
theorem addWithCarry_eq (m : Byte) {c : Nat} (hc : c ≤ 1) (s : State) :
    addWithCarry m c s = { s with a := addA s.a m c, p := addP s.a m c s.p } := by
  simp only [addWithCarry, setZN_eq, setFlag, putFlag_flagC, putFlag_flagV, overflowed_sum9 s.a m hc]
  rfl

theorem adc_eq (m : Byte) (s : State) : adc m s = { s with a := addA s.a m (carry s.p), p := addP s.a m (carry s.p) s.p } := by
  rw [adc, carryIn_eq_carry, addWithCarry_eq m (carry_le_one s.p)]

/-! Read-class forms -/

@[simp] theorem readSource_a (o : Source) (s : State) : (readSource o s).2.a = s.a := by rw [readSource_state]
@[simp] theorem readSource_x (o : Source) (s : State) : (readSource o s).2.x = s.x := by rw [readSource_state]
@[simp] theorem readSource_y (o : Source) (s : State) : (readSource o s).2.y = s.y := by rw [readSource_state]
@[simp] theorem readSource_p (o : Source) (s : State) : (readSource o s).2.p = s.p := by rw [readSource_state]

theorem crossPenalty_eq (marked : Bool) (o : Source) (s : State) :
    crossPenalty marked o s = if marked && crosses o s then 1 else 0 := by
  cases o with
  | imm v => simp [crossPenalty, crosses]
  | mem m => rfl

/-- Each form has its bytes, and `exec` runs it as the read-class instruction of the register operation `op`. -/
def runAsReadClass (fs : List ReadForm) (op : Byte → State → State) (s : State) : Prop :=
  ∀ f ∈ fs, encode f.instr = f.bytes ∧ exec f.instr s = .next (readClass f.cycles f.marked f.source op s)

/-- Read-class forms of one operation complete with `effect` where the operation has that effect after the operand's read. -/
theorem reads_of_runAsReadClass {fs : List ReadForm} {op : Byte → State → State} {s : State} {effect : Byte → State → State}
    (h : runAsReadClass fs op s) (he : ∀ o, op (readSource o s).1 (readSource o s).2 = effect (readSource o s).1 (readSource o s).2) :
    reads fs s effect := by
  intro f hf
  obtain ⟨hbytes, hexec⟩ := h f hf
  refine ⟨hbytes, ?_⟩
  rw [hexec, readClass, he, crossPenalty_eq]
  rfl

/-- The eight forms of ADC, in the order of the list. -/
theorem adcForms_runAsReadClass (nn : Byte) (w : Addr) (s : State) : runAsReadClass (adcForms nn w) adc s := by
  simp only [runAsReadClass, adcForms, List.forall_mem_cons]
  exact ⟨⟨rfl, rfl⟩, ⟨rfl, rfl⟩, ⟨rfl, rfl⟩, ⟨rfl, rfl⟩, ⟨rfl, rfl⟩, ⟨rfl, rfl⟩, ⟨rfl, rfl⟩, ⟨rfl, rfl⟩, by simp⟩

/-- Settles O16: the operand's read leaves A and P, so every form adds to the A and the carry before it (`adc_eq`). -/
theorem adcAddsWithCarryAndSignedOverflow : Obligations.AdcAddsWithCarryAndSignedOverflow := by
  intro s nn w
  refine reads_of_runAsReadClass (adcForms_runAsReadClass nn w s) fun o => ?_
  rw [adc_eq, readSource_a, readSource_p]

end Sys2Proof.Machine
end

section
/-! Subroutine calls and returns on the stack (43_control_flow.md R211, R212, R223; 20_memory.md R82 to R84). -/

namespace Sys2Proof.Machine

open Sys2Proof.Vocab

/-! The statements' numbers for the two bytes of an address -/

theorem hi_eq_hiByte (w : Addr) : hi w = hiByte w := by
  apply BitVec.eq_of_toNat_eq
  simp [hi, hiByte, Nat.shiftRight_eq_div_pow]

theorem lo_eq_loByte (w : Addr) : lo w = loByte w := by
  apply BitVec.eq_of_toNat_eq
  simp [lo, loByte]

theorem join_eq_wordOf (hh ll : Byte) : join hh ll = wordOf hh ll := by
  apply BitVec.eq_of_toNat_eq
  have hbound : hh.toNat * 256 + ll.toNat < 2 ^ 16 := by have := hh.isLt; have := ll.isLt; omega
  rw [join, wordOf, BitVec.toNat_append, BitVec.toNat_ofNat, Nat.mod_eq_of_lt hbound,
    ← Nat.shiftLeft_add_eq_or_of_lt ll.isLt, Nat.shiftLeft_eq]

/-! The stack operations over the statements' slots -/

theorem slotDown_zero (s : State) : slotDown s 0 = 256 + s.s.toNat := by simp [slotDown]

/-- Two pushes fill the slots of `S` and of the cell below (R82, R211). -/
theorem push16_eq_ram2 (w : Addr) (s : State) :
    push16 w s = { s with ram := ram2 s (hiByte w) (loByte w), s := s.s - 2#8 } := by
  rw [push16_eq, hi_eq_hiByte, lo_eq_loByte, ram2, ram1, slotDown_zero, slotDown]
  rfl

/-- A pull takes the first slot above `S` (R83). -/
theorem pull_eq_stacked (s : State) : pull s = (stacked s 1, { s with s := s.s + 1#8 }) := pull_eq s

/-- Two pulls take the two slots above `S`, the low byte first (R83, R212). -/
theorem pull16_eq_stacked (s : State) :
    pull16 s = (wordOf (stacked s 2) (stacked s 1), { s with s := s.s + 2#8 }) := by
  rw [pull16_eq, join_eq_wordOf]
  rfl

/-- After one pull each slot is one further up as seen from the `S` before it. -/
theorem stacked_of_pulled (s : State) (p k : Byte) : stacked { s with s := s.s + 1#8, p := p } k = stacked s (1#8 + k) := by
  rw [stacked, slotUp, BitVec.add_assoc]
  rfl

/-! The three instructions -/

theorem jsr_eq (w : Addr) (s : State) :
    jsr w s = { s with ram := ram2 s (hiByte (s.pc - 1#16)) (loByte (s.pc - 1#16)), s := s.s - 2#8, pc := w } := by
  rw [jsr, push16_eq_ram2]

theorem rts_eq (s : State) : rts s = { s with s := s.s + 2#8, pc := wordOf (stacked s 2) (stacked s 1) + 1#16 } := by
  rw [rts, pull16_eq_stacked]

theorem returnFromException_eq (s : State) :
    returnFromException s =
      { s with p := pulledStatus (stacked s 1), s := s.s + 3#8, pc := wordOf (stacked s 3) (stacked s 2) } := by
  have hs : s.s + 1#8 + 2#8 = s.s + 3#8 := BitVec.add_assoc ..
  simp only [returnFromException, pull_eq_stacked, pull16_eq_stacked, stacked_of_pulled, hs]
  rfl

/-- An instruction runs to `t` where `exec` retires `t`, however the model writes it, after its cycles. -/
theorem runs_of_retire {i : Instr} {bytes : List Byte} {n : Nat} {s u t : State}
    (hbytes : encode i = bytes) (hexec : exec i s = .next (retire n u)) (hu : u = t) : runs i bytes n s t := by
  subst hu
  exact ⟨hbytes, hexec⟩

/-- Settles O22: the call's two pushes fill the slots `S` and `S - 1`, the return's two pulls take `S + 1` and `S + 2`. -/
theorem jsrAndRtsCompleteOnTheStack : Obligations.JsrAndRtsCompleteOnTheStack :=
  fun s w => ⟨runs_of_retire rfl rfl (jsr_eq w s), runs_of_retire rfl rfl (rts_eq s)⟩

/-- Settles O25: the status comes from the slot `S + 1`, and the two pulls after it take `S + 2` and `S + 3`. -/
theorem rtiPullsStatusThenPc : Obligations.RtiPullsStatusThenPc :=
  fun s => runs_of_retire rfl rfl (returnFromException_eq s)

end Sys2Proof.Machine
end

section
/-! The combined and the doubled undocumented instructions (45_illegal.md R251 to R258), and read-modify-write forms in general
(30_encoding.md R134). -/

namespace Sys2Proof.Machine

open Sys2Proof.Vocab

/-! The subtraction behind ISB (41_arith_logic.md R181) -/

theorem toNat_xor_ff : ∀ m : Byte, (m ^^^ 0xFF#8).toNat = 255 - m.toNat := by decide

theorem toInt_xor_ff : ∀ m : Byte, (m ^^^ 0xFF#8).toInt = -1 - m.toInt := by decide

/-- Adding the complement and a carry is subtracting with the borrow `1 - c`: `255 - m + c` is `256 - m - (1 - c)`. -/
theorem addA_xor_ff (a m : Byte) {c : Nat} (hc : c ≤ 1) : addA a (m ^^^ 0xFF#8) c = subA a m (1 - c) := by
  have hm := m.isLt
  apply BitVec.eq_of_toNat_eq
  rw [addA, subA, toNat_xor_ff, BitVec.toNat_ofNat, BitVec.toNat_ofInt]
  omega

/-- The carry out of the complement's addition is "no borrow", and both signed results are the same number. -/
theorem addP_xor_ff (a m : Byte) {c : Nat} (hc : c ≤ 1) (p : Byte) : addP a (m ^^^ 0xFF#8) c p = subP a m (1 - c) p := by
  have hm := m.isLt
  have hcarry : (256 ≤ a.toNat + (255 - m.toNat) + c) ↔ m.toNat + (1 - c) ≤ a.toNat := by omega
  have hsigned : a.toInt + (-1 - m.toInt) + c = a.toInt - m.toInt - (1 - c : Nat) := by omega
  rw [addP, subP, addA_xor_ff a m hc, toNat_xor_ff, toInt_xor_ff, hsigned, decide_eq_decide.2 hcarry]

/-- SBC of a byte, for SBC itself and for ISB (R181). -/
theorem subWithBorrow_eq (m : Byte) (s : State) :
    subWithBorrow m s = { s with a := subA s.a m (1 - carry s.p), p := subP s.a m (1 - carry s.p) s.p } := by
  have hc := carry_le_one s.p
  rw [subWithBorrow, carryIn_eq_carry, addWithCarry_eq _ hc, addA_xor_ff _ _ hc, addP_xor_ff _ _ hc]

/-! Shifts and rotates of a byte in numbers, and the bit that leaves it -/

theorem shiftLeft_one_eq : ∀ m : Byte, m <<< 1 = BitVec.ofNat 8 (2 * m.toNat) := by decide

theorem shiftRight_one_eq : ∀ m : Byte, m >>> 1 = BitVec.ofNat 8 (m.toNat / 2) := by decide

theorem rotateLeftThrough_eq : ∀ (c : Bool) (m : Byte),
    m <<< 1 ||| (if c then 0x01#8 else 0x00#8) = BitVec.ofNat 8 (2 * m.toNat + c.toNat) := by decide

theorem rotateRightThrough_eq : ∀ (c : Bool) (m : Byte),
    m >>> 1 ||| (if c then 0x80#8 else 0x00#8) = BitVec.ofNat 8 (m.toNat / 2 + 128 * c.toNat) := by decide

theorem bit7_eq : ∀ m : Byte, m.getLsbD 7 = decide (128 ≤ m.toNat) := by decide

theorem bit0_eq : ∀ m : Byte, m.getLsbD 0 = decide (m.toNat % 2 = 1) := by decide

theorem bit0_toNat : ∀ m : Byte, (m.getLsbD 0).toNat = m.toNat % 2 := by decide

/-! The memory operation of each combined instruction -/

theorem rlaByte_eq (m : Byte) (s : State) : rlaByte m s = BitVec.ofNat 8 (2 * m.toNat + carry s.p) := by
  rw [rlaByte, rotateLeftThrough_eq, ← carryIn_eq_carry, carryIn]

theorem rraByte_eq (m : Byte) (s : State) : rraByte m s = BitVec.ofNat 8 (m.toNat / 2 + 128 * carry s.p) := by
  rw [rraByte, rotateRightThrough_eq, ← carryIn_eq_carry, carryIn]

/-! The register operation of each undocumented instruction -/

theorem lax_eq (m : Byte) (s : State) : lax m s = { s with a := m, x := m, p := nz m s.p } := by
  rw [lax, setZN_eq]

theorem dcpAfter_eq (m r : Byte) (s : State) : dcpAfter m r s = { s with p := compareP s.a r s.p } := by
  rw [dcpAfter, setZN_eq, setFlag, putFlag_flagC]
  rfl

theorem sloAfter_eq (m r : Byte) (s : State) :
    sloAfter m r s = { s with a := s.a ||| r, p := nz (s.a ||| r) (putC (decide (128 ≤ m.toNat)) s.p) } := by
  rw [sloAfter, setZN_eq, setFlag, putFlag_flagC, bit7_eq]

theorem rlaAfter_eq (m r : Byte) (s : State) :
    rlaAfter m r s = { s with a := s.a &&& r, p := nz (s.a &&& r) (putC (decide (128 ≤ m.toNat)) s.p) } := by
  rw [rlaAfter, setZN_eq, setFlag, putFlag_flagC, bit7_eq]

theorem sreAfter_eq (m r : Byte) (s : State) :
    sreAfter m r s = { s with a := s.a ^^^ r, p := nz (s.a ^^^ r) (putC (decide (m.toNat % 2 = 1)) s.p) } := by
  rw [sreAfter, setZN_eq, setFlag, putFlag_flagC, bit0_eq]

/-- The carry-in of RRA's addition is the bit its rotate puts out, not the carry before it (R258). -/
theorem rraAfter_eq (m r : Byte) (s : State) :
    rraAfter m r s = { s with a := addA s.a r (m.toNat % 2), p := addP s.a r (m.toNat % 2) s.p } := by
  rw [rraAfter, bit0_toNat, addWithCarry_eq r (Nat.le_of_lt_succ (Nat.mod_lt _ (by decide)))]

/-! Read-modify-write forms -/

/-- Each form has its bytes, and `exec` runs it as the read-modify-write instruction of the byte `f` and the register operation `g`. -/
def runAsRmwClass (fs : List MemForm) (f : Byte → State → Byte) (g : Byte → Byte → State → State) (s : State) : Prop :=
  ∀ F ∈ fs, encode F.instr = F.bytes ∧ exec F.instr s = .next (rmwClass F.cycles F.mode f g s)

/-- Read-modify-write forms of one operation complete with `result` and `effect` where its byte and its register operation are these
in every state with the A and P of `s`: the read and the write of the data byte leave both registers. -/
theorem updates_of_runAsRmwClass {fs : List MemForm} {f : Byte → State → Byte} {g : Byte → Byte → State → State} {s : State}
    {result : Byte → Byte} {effect : Byte → State → State} (h : runAsRmwClass fs f g s)
    (hf : ∀ m t, t.p = s.p → f m t = result m)
    (hg : ∀ m t, t.a = s.a → t.p = s.p → g m (result m) t = effect m t) :
    updates fs s result effect := by
  intro F hF
  obtain ⟨hbytes, hexec⟩ := h F hF
  refine ⟨hbytes, ?_⟩
  rw [hexec, rmwClass, hf _ _ (memRead_p ..), hg _ _ (by simp) (by simp)]
  rfl

/-- The six combined instructions have the same seven forms, in the order of their lists. -/
theorem combinedForms_runAsRmwClass (nn : Byte) (w : Addr) (s : State) :
    runAsRmwClass (dcpForms nn w) dcpByte dcpAfter s ∧ runAsRmwClass (isbForms nn w) isbByte isbAfter s ∧
    runAsRmwClass (sloForms nn w) sloByte sloAfter s ∧ runAsRmwClass (rlaForms nn w) rlaByte rlaAfter s ∧
    runAsRmwClass (sreForms nn w) sreByte sreAfter s ∧ runAsRmwClass (rraForms nn w) rraByte rraAfter s := by
  simp only [runAsRmwClass, dcpForms, isbForms, sloForms, rlaForms, sreForms, rraForms, List.forall_mem_cons]
  refine ⟨?_, ?_, ?_, ?_, ?_, ?_⟩ <;>
    exact ⟨⟨rfl, rfl⟩, ⟨rfl, rfl⟩, ⟨rfl, rfl⟩, ⟨rfl, rfl⟩, ⟨rfl, rfl⟩, ⟨rfl, rfl⟩, ⟨rfl, rfl⟩, List.forall_mem_nil _⟩

/-- Settles O21: the memory operation sees the carry before the instruction, and the register operation the A and P before it, since the
access in between leaves them; each operation is then its equation above, RRA adding with the bit rotated out. -/
theorem combinedInstructionsCompleteWithTheirResult : Obligations.CombinedInstructionsCompleteWithTheirResult := by
  intro s nn w
  obtain ⟨dcp, isb, slo, rla, sre, rra⟩ := combinedForms_runAsRmwClass nn w s
  refine ⟨updates_of_runAsRmwClass dcp (fun _ _ _ => rfl) fun m t ha hp => ?_,
    updates_of_runAsRmwClass isb (fun _ _ _ => rfl) fun m t ha hp => ?_,
    updates_of_runAsRmwClass slo (fun m _ _ => shiftLeft_one_eq m) fun m t ha hp => ?_,
    updates_of_runAsRmwClass rla (fun m t hp => by rw [rlaByte_eq, hp]) fun m t ha hp => ?_,
    updates_of_runAsRmwClass sre (fun m _ _ => shiftRight_one_eq m) fun m t ha hp => ?_,
    updates_of_runAsRmwClass rra (fun m t hp => by rw [rraByte_eq, hp]) fun m t ha hp => ?_⟩
  · rw [dcpAfter_eq, ha, hp]
  · rw [isbAfter, subWithBorrow_eq, ha, hp]
  · rw [sloAfter_eq, ha, hp]
  · rw [rlaAfter_eq, ha, hp]
  · rw [sreAfter_eq, ha, hp]
  · rw [rraAfter_eq, ha, hp]

/-! LAX and SAX -/

/-- The six forms of LAX, in the order of the list. -/
theorem laxForms_runAsReadClass (nn : Byte) (w : Addr) (s : State) : runAsReadClass (laxForms nn w) lax s := by
  simp only [runAsReadClass, laxForms, List.forall_mem_cons]
  exact ⟨⟨rfl, rfl⟩, ⟨rfl, rfl⟩, ⟨rfl, rfl⟩, ⟨rfl, rfl⟩, ⟨rfl, rfl⟩, ⟨rfl, rfl⟩, List.forall_mem_nil _⟩

/-- The four forms of SAX, in the order of the list: a write-class instruction changes the bus and the cycles owed alone. -/
theorem saxForms_store (nn : Byte) (w : Addr) (s : State) : stores (saxForms nn w) s (s.a &&& s.x) := by
  simp only [stores, saxForms, List.forall_mem_cons]
  exact ⟨⟨rfl, rfl⟩, ⟨rfl, rfl⟩, ⟨rfl, rfl⟩, ⟨rfl, rfl⟩, List.forall_mem_nil _⟩

/-- Settles O20: the operand's read leaves P, so LAX sets Z and N in the P before it (`lax_eq`); SAX is its store. -/
theorem laxAndSaxCompleteWithTheirResult : Obligations.LaxAndSaxCompleteWithTheirResult := by
  intro s nn w
  refine ⟨reads_of_runAsReadClass (laxForms_runAsReadClass nn w s) fun o => ?_, saxForms_store nn w s⟩
  rw [lax_eq, readSource_p]

end Sys2Proof.Machine
end

section
/-! Dots of the PPU: the frame of a dot's work, the flags cleared on the pre-render line, and the position in the frame (51_ppu.md R374,
R380, R381). -/

namespace Sys2Proof.Machine

open Sys2Proof.Vocab

/-! What each part of a dot's work leaves -/

/-- A step that keeps an observation `k` keeps it also where it is taken under a condition. -/
theorem ite_keeps {α β : Type} (k : α → β) (c : Prop) [Decidable c] {s t : α} (h : k t = k s) : k (if c then t else s) = k s := by
  rw [apply_ite k, h, ite_self]

/-- A PPU with `v` and the registers of the background pipeline cleared: two PPUs that agree on it differ in those alone. -/
def exceptBackground (p : Ppu) : Ppu :=
  { p with v := 0, bgNt := 0, bgAt := 0, bgLo := 0, bgHi := 0, shPatLo := 0, shPatHi := 0, shAtLo := 0, shAtHi := 0 }

theorem bgFetch_exceptBackground (d : Nat) (s : State) : exceptBackground (bgFetch d s).ppu = exceptBackground s.ppu := by
  unfold bgFetch
  split <;> rfl

theorem bgScroll_exceptBackground (line d : Nat) (p : Ppu) : exceptBackground (bgScroll line d p) = exceptBackground p := by
  rw [bgScroll_frame]
  rfl

/-- The background pipeline changes `v` and its own registers alone (R390): so do its shift, its reload, its fetch and its scroll. -/
theorem bgStep_exceptBackground (line d : Nat) (s : State) : exceptBackground (bgStep line d s).ppu = exceptBackground s.ppu :=
  let k := fun t : State => exceptBackground t.ppu
  calc k (bgStep line d s)
    _ = _ := bgScroll_exceptBackground line d _
    _ = _ := ite_keeps k (isFetchDot d = true) (bgFetch_exceptBackground d _)
    _ = _ := ite_keeps k (isReloadDot d = true) rfl
    _ = k s := ite_keeps k (isShiftDot d = true) rfl

/-- Past dot 320 a line has no sprite work (R410). -/
theorem spriteStep_past {d : Nat} (h : 320 < d) (line : Nat) (s : State) : spriteStep line d s = s := by
  rw [spriteStep, if_neg (by omega), if_neg (by omega)]

/-- What a dot's work leaves to `Advance()`: the position and the sprite buffer in use (R381). -/
def beam (p : Ppu) : Nat × Nat × List SpriteSlot := (p.scanline, p.dot, p.sprCur)

theorem dotEvents_beam (line d : Nat) (s : State) : beam (dotEvents line d s).ppu = beam s.ppu := by
  unfold dotEvents
  (repeat' split) <;> rfl

theorem bgStep_beam (line d : Nat) (s : State) : beam (bgStep line d s).ppu = beam s.ppu :=
  (congrArg beam (bgStep_exceptBackground line d s) :)

theorem spriteStep_beam (line d : Nat) (s : State) : beam (spriteStep line d s).ppu = beam s.ppu := by
  unfold spriteStep
  split
  · obtain ⟨l, o, he, -⟩ := spriteEval_frame line s.ppu
    rw [he]
    rfl
  · (repeat' split) <;> rfl

theorem dotWork_beam (line d : Nat) (s : State) : beam (dotWork line d s).ppu = beam s.ppu :=
  let k := fun t : State => beam t.ppu
  calc k (dotWork line d s)
    _ = _ := ite_keeps k _ (spriteStep_beam line d _)
    _ = _ := ite_keeps k _ rfl
    _ = _ := ite_keeps k _ (bgStep_beam line d _)
    _ = k s := dotEvents_beam line d s

@[simp] theorem dotWork_scanline (line d : Nat) (s : State) : (dotWork line d s).ppu.scanline = s.ppu.scanline :=
  congrArg (·.1) (dotWork_beam line d s)
@[simp] theorem dotWork_dot (line d : Nat) (s : State) : (dotWork line d s).ppu.dot = s.ppu.dot :=
  congrArg (·.2.1) (dotWork_beam line d s)
@[simp] theorem dotWork_sprCur (line d : Nat) (s : State) : (dotWork line d s).ppu.sprCur = s.ppu.sprCur :=
  congrArg (·.2.2) (dotWork_beam line d s)

theorem dotEvents_sprNext (line d : Nat) (s : State) : (dotEvents line d s).ppu.sprNext = s.ppu.sprNext := by
  unfold dotEvents
  (repeat' split) <;> rfl

theorem bgStep_sprNext (line d : Nat) (s : State) : (bgStep line d s).ppu.sprNext = s.ppu.sprNext :=
  (congrArg Ppu.sprNext (bgStep_exceptBackground line d s) :)

/-- Past dot 320 the sprite buffer being filled is left as it is. -/
theorem dotWork_sprNext {d : Nat} (h : 320 < d) (line : Nat) (s : State) : (dotWork line d s).ppu.sprNext = s.ppu.sprNext :=
  let k := fun t : State => t.ppu.sprNext
  calc k (dotWork line d s)
    _ = _ := ite_keeps k _ (congrArg k (spriteStep_past h line _))
    _ = _ := ite_keeps k _ rfl
    _ = _ := ite_keeps k _ (bgStep_sprNext line d _)
    _ = k s := dotEvents_sprNext line d s

/-- The pre-render line has no pixels and no sprite work, so beside the events only the background pipeline runs. -/
theorem dotWork_preRender (d : Nat) (s : State) :
    exceptBackground (dotWork 261 d s).ppu = exceptBackground (dotEvents 261 d s).ppu := by
  have offScreen : ¬ 261 ≤ 239 := by decide
  simp only [dotWork, offScreen, false_and, if_false]
  exact ite_keeps (fun t : State => exceptBackground t.ppu) _ (bgStep_exceptBackground 261 d _)

/-! The move to the next position -/

theorem ppuDot_ppu (s : State) : (ppuDot s).ppu = advance (dotWork s.ppu.scanline s.ppu.dot s).ppu := rfl

/-- The move changes the position and the sprite buffers alone. -/
theorem advance_frame (p : Ppu) : advance p = { p with
    scanline := (advance p).scanline, dot := (advance p).dot, sprCur := (advance p).sprCur, sprNext := (advance p).sprNext } := by
  unfold advance
  split <;> rfl

theorem advance_lineEnd {p : Ppu} (h : p.dot = 340) : advance p = { p with
    dot := 0, sprCur := p.sprNext, sprNext := [], scanline := if p.scanline + 1 = 262 then 0 else p.scanline + 1 } :=
  if_pos (by omega)

theorem advance_inLine {p : Ppu} (h : p.dot ≠ 340) : advance p = { p with dot := p.dot + 1 } :=
  if_neg (by omega)

/-- From a position in range, the move is to the next position of the frame, in range again. -/
theorem advance_position {p : Ppu} (h : positionOk p) :
    framePosition (advance p) = (framePosition p + 1) % 89342 ∧ positionOk (advance p) := by
  obtain ⟨hline, hdot⟩ := h
  by_cases hend : p.dot = 340
  · rw [advance_lineEnd hend]
    simp only [framePosition, positionOk]
    split <;> omega
  · rw [advance_inLine hend]
    simp only [framePosition, positionOk]
    omega

/-- Settles O52: the position's event clears the flags, the background pipeline and the move leave them, and nothing else runs. -/
theorem preRenderLineClearsTheFlags : Obligations.PreRenderLineClearsTheFlags := by
  intro s hline hdot
  have cleared : exceptBackground (dotWork 261 1 s).ppu = exceptBackground (flagsClear s).ppu := dotWork_preRender 1 s
  rw [ppuDot_ppu, hline, hdot, advance_frame]
  exact ⟨congrArg Ppu.vblank cleared, congrArg Ppu.spr0hit cleared, congrArg Ppu.overflow cleared⟩

/-- Settles O53: a dot's work leaves the position and the sprite buffer in use, and at a line's end the other buffer too, so what is
left is the move. -/
theorem dotAdvancesTheFrame : Obligations.DotAdvancesTheFrame := by
  intro s hpos
  have inRange : positionOk (dotWork s.ppu.scanline s.ppu.dot s).ppu := by
    simpa only [positionOk, dotWork_scanline, dotWork_dot] using hpos
  obtain ⟨next, nextInRange⟩ := advance_position inRange
  rw [ppuDot_ppu]
  refine ⟨by simpa [framePosition] using next, nextInRange, fun hend => ?_, fun hend => ?_⟩
  · rw [advance_lineEnd (by simpa using hend)]
    exact ⟨dotWork_sprNext (by omega) _ s, rfl⟩
  · rw [advance_inLine (by simpa using hend)]
    exact dotWork_sprCur _ _ s

end Sys2Proof.Machine
end

section
/-! The pixel priority rule (51_ppu.md R415, R431). -/

namespace Sys2Proof.Machine

/-- Bits 1 and 0 of a byte make its remainder by 4. -/
theorem pair_lowBits (b : Byte) : pair (b.getLsbD 1) (b.getLsbD 0) = b.toNat % 4 := by
  simp only [pair, BitVec.getLsbD, Nat.toNat_testBit]
  omega

theorem spritePixel_cons_opaque {px : Nat} {e : SpriteSlot} (h : slotPixel px e ≠ 0) (rest : List SpriteSlot) :
    spritePixel px (e :: rest) =
      { pix := slotPixel px e, pal := e.attr.toNat % 4, behind := e.attr.getLsbD 5, zero := e.isZero } := by
  rw [spritePixel, if_pos h, pair_lowBits]

theorem spritePixel_cons_transparent {px : Nat} {e : SpriteSlot} (h : slotPixel px e = 0) (rest : List SpriteSlot) :
    spritePixel px (e :: rest) = spritePixel px rest := by
  rw [spritePixel, if_neg (not_not_intro h)]

/-- Transparent slots in front do not matter. -/
theorem spritePixel_append_transparent {px : Nat} {before : List SpriteSlot} (h : ∀ d ∈ before, slotPixel px d = 0)
    (rest : List SpriteSlot) : spritePixel px (before ++ rest) = spritePixel px rest := by
  induction before with
  | nil => rfl
  | cons d before ih =>
    obtain ⟨hd, hbefore⟩ := List.forall_mem_cons.mp h
    rw [List.cons_append, spritePixel_cons_transparent hd, ih hbefore]

/-- Settles O55: the four cases of the rule, and the first opaque slot behind any number of transparent ones. -/
theorem pixelPriority : Obligations.PixelPriority := by
  refine ⟨fun bg sp => ⟨fun hbg hsp => ?_, fun hbg hsp => ?_, fun hbg hsp => ?_, fun hbg hsp => ?_⟩,
    fun px before rest e hbefore he => ?_, fun px l hl => ?_⟩
  · simp [pixelIndex, hbg, hsp]
  · simp [pixelIndex, hbg, hsp]
  · simp [pixelIndex, hbg, hsp]
  · cases hbehind : sp.behind <;> simp [pixelIndex, hbg, hsp, hbehind]
  · rw [spritePixel_append_transparent hbefore, spritePixel_cons_opaque he]
  · rw [← List.append_nil l, spritePixel_append_transparent hl]
    rfl

end Sys2Proof.Machine
end

section
/-! Reads of PRG ROM through the mapper (52_mappers.md R460), and NROM's banks (R456, R463). -/

namespace Sys2Proof.Machine

/-- From $8000 on, the CPU bus reads the mapper's bank view. -/
theorem peek_at_prg {a : Addr} (h : 0x8000#16 ≤ a) (s : State) : peek a s = prgByte s a := by
  have above {b : Addr} (hb : b < 0x8000#16) : ¬ a ≤ b ∧ a ≠ b := by
    constructor <;> bv_omega
  have notMiss : ¬ a < 0x6000#16 := by bv_omega
  have notWram : ¬ a < 0x8000#16 := by bv_omega
  simp [peek, memRead, mapperCpuRead, above, notMiss, notWram]

theorem prgByte_nrom {s : State} (hs : s.mapper = .nrom) (a : Addr) :
    prgByte s a =
      Memory.read s.cfg.cart.prg (a.toNat / 16384 % 2 % s.cfg.cart.prgBanks * 16384 + a.toNat % 16384) := by
  simp only [prgByte, prgOffset, hs, nromPrgOffset, prg16, prgBankSize]

/-- NROM's bank view on the CPU bus, at an address given as a number. -/
theorem peek_nrom {s : State} (hs : s.mapper = .nrom) {a : Nat} (hlo : 0x8000 ≤ a) (hhi : a < 0x10000) :
    peek (BitVec.ofNat 16 a) s =
      Memory.read s.cfg.cart.prg (a / 16384 % 2 % s.cfg.cart.prgBanks * 16384 + a % 16384) := by
  have hval : (BitVec.ofNat 16 a).toNat = a := Nat.mod_eq_of_lt hhi
  rw [peek_at_prg (by bv_omega), prgByte_nrom hs, hval]

/-- Settles O37: the last clause is NROM's bank view, and the windows of two banks and of one are its instances. -/
theorem nromShowsItsBanks : Obligations.NromShowsItsBanks := by
  intro s o hs ho
  obtain ⟨lowBank, lowOffset⟩ : (0x8000 + o) / 16384 % 2 = 0 ∧ (0x8000 + o) % 16384 = o := by omega
  obtain ⟨highBank, highOffset⟩ : (0xC000 + o) / 16384 % 2 = 1 ∧ (0xC000 + o) % 16384 = o := by omega
  have low := peek_nrom hs (a := 0x8000 + o) (by omega) (by omega)
  have high := peek_nrom hs (a := 0xC000 + o) (by omega) (by omega)
  rw [lowBank, lowOffset] at low
  rw [highBank, highOffset] at high
  refine ⟨fun two => ?_, fun one => ?_, fun n a hn hlo hhi => hn ▸ peek_nrom hs hlo hhi⟩
  · simpa [two] using And.intro low high
  · simpa [one] using And.intro low high

end Sys2Proof.Machine
end

section
/-! Decoding and encoding are inverse (30_encoding.md R120, R122, R140), and the fetch reads what it decodes (R121). -/

namespace Sys2Proof

/-- The instructions that a format makes, each with its operand bytes. -/
inductive Format.Gives : Format → Instr → List Byte → Prop where
  | f1 (i : Instr) : Gives (.f1 i) i []
  | f2 (make : Byte → Instr) (nn : Byte) : Gives (.f2 make) (make nn) [nn]
  | f3 (make : Addr → Instr) (w : Addr) : Gives (.f3 make) (make w) [operandLo w, operandHi w]

theorem Format.Gives.length {f : Format} {i : Instr} {operands : List Byte} (h : f.Gives i operands) :
    operands.length = f.operands := by
  cases h <;> rfl

/-- Every instruction is made by the row of its opcode byte, with the operand bytes of its encoding. -/
theorem exists_gives (i : Instr) : ∃ op operands, encode i = op :: operands ∧ (opTable op).format.Gives i operands := by
  cases i <;> exact ⟨_, _, rfl, by constructor⟩

/-- The decoder takes an opcode byte with the operand bytes of its format. -/
theorem Format.Gives.decode {op : Byte} {i : Instr} {operands : List Byte} (h : (opTable op).format.Gives i operands) (rest : List Byte) :
    decode (op :: (operands ++ rest)) = .ok (i, rest) := by
  generalize hf : (opTable op).format = f at h
  cases h with
  | f1 => exact decode_f1 hf rest
  | f2 make nn => exact decode_f2 hf nn rest
  | f3 make w => rw [List.cons_append, List.cons_append, List.nil_append, decode_f3 hf, operand16_lo_hi]

/-- The decoder takes nothing else. -/
theorem gives_of_decode {bytes rest : List Byte} {i : Instr} (h : decode bytes = .ok (i, rest)) :
    ∃ op operands, bytes = op :: (operands ++ rest) ∧ (opTable op).format.Gives i operands := by
  unfold Sys2Proof.decode at h
  split at h
  · cases h
  · rename_i op tail
    split at h
    next hf =>
      cases h
      exact ⟨op, [], rfl, hf ▸ .f1 i⟩
    next make nn tail hf =>
      cases h
      exact ⟨op, [nn], rfl, hf ▸ .f2 make nn⟩
    next make ll hh tail hf =>
      cases h
      exact ⟨op, [ll, hh], rfl, hf ▸ by simpa using Format.Gives.f3 make (operand16 ll hh)⟩
    all_goals cases h

/-- An instruction of a format, and its operand bytes, from operands of both kinds. -/
def Format.instr (nn : Byte) (w : Addr) : Format → Instr
  | .f1 i => i
  | .f2 make => make nn
  | .f3 make => make w
def Format.bytes (nn : Byte) (w : Addr) : Format → List Byte
  | .f1 _ => []
  | .f2 _ => [nn]
  | .f3 _ => [operandLo w, operandHi w]

/-- Two functions of the opcode byte agree where they do on each of the sixteen rows of the table. -/
theorem eq_of_rows {α : Type} {f g : Byte → α}
    (rows : ∀ h < 16, (List.range 16).map (fun l => f (BitVec.ofNat 8 (16 * h + l))) =
      (List.range 16).map fun l => g (BitVec.ofNat 8 (16 * h + l))) (op : Byte) : f op = g op := by
  have hop : 16 * (op.toNat / 16) + op.toNat % 16 = op.toNat := Nat.div_add_mod op.toNat 16
  have row := List.map_inj_left.1 (rows (op.toNat / 16) (by have := op.isLt; omega)) (op.toNat % 16) (List.mem_range.2 (by omega))
  simpa [hop] using row

/-- Encoding an instruction of a row gives the row's opcode byte and the operand bytes; the operands stay open in the comparison. -/
theorem encode_opTable (op nn : Byte) (w : Addr) :
    encode ((opTable op).format.instr nn w) = op :: (opTable op).format.bytes nn w := by
  refine eq_of_rows (f := fun op => encode ((opTable op).format.instr nn w))
    (g := fun op => op :: (opTable op).format.bytes nn w) (fun h hh => ?_) op
  interval_cases h <;> rfl

theorem Format.Gives.encode {op : Byte} {i : Instr} {operands : List Byte} (h : (opTable op).format.Gives i operands) :
    encode i = op :: operands := by
  generalize hf : (opTable op).format = f at h
  have row := fun nn w => hf ▸ encode_opTable op nn w
  cases h with
  | f1 => exact row 0 0
  | f2 make nn => exact row nn 0
  | f3 make w => exact row 0 w

/-- Settles O1: an instruction's own row makes it of its encoding's bytes, and the decoder reads that row. -/
theorem decodeOfEncodeIsTheInstruction : Obligations.DecodeOfEncodeIsTheInstruction := by
  intro i rest
  obtain ⟨op, operands, hencode, hgives⟩ := exists_gives i
  rw [hencode]
  exact hgives.decode rest

/-- Settles O2: every row has enough of three bytes, and what a row makes of its operand bytes encodes as the opcode and those. -/
theorem decodeIsTotalAndEncodeGivesTheBytesBack : Obligations.DecodeIsTotalAndEncodeGivesTheBytesBack := by
  refine ⟨fun b0 b1 b2 rest => ?_, fun bytes rest i h => ?_⟩
  · cases hf : (opTable b0).format with
    | f1 i => exact ⟨i, _, decode_f1 hf _⟩
    | f2 make => exact ⟨make b1, _, decode_f2 hf b1 _⟩
    | f3 make => exact ⟨make (operand16 b1 b2), _, decode_f3 hf b1 b2 _⟩
  · obtain ⟨op, operands, rfl, hgives⟩ := gives_of_decode h
    have hmode : i.mode = (opTable op).mode := by rw [Instr.mode, Instr.row, Instr.opcode, hgives.encode]; rfl
    rw [hgives.encode, hmode, ← format_operands, ← hgives.length]
    exact ⟨rfl, rfl⟩

/-- Settles O3: each word is an opcode byte of the map and its operand bytes. -/
theorem specWordsDecode : Obligations.SpecWordsDecode := by
  unfold Obligations.SpecWordsDecode
  and_intros <;> rfl

namespace Machine

open Sys2Proof.Vocab

theorem fetch8_eq (s : State) : fetch8 s = (peek s.pc s, { (memRead s.pc s).2 with pc := s.pc + 1#16 }) := by
  simp [fetch8, peek]

/-- Settles O5: the fetch reads one byte and as many operand bytes as the format at hand has, which is the mode's length. -/
theorem fetchReadsTheDecodedBytes : Obligations.FetchReadsTheDecodedBytes := by
  intro s
  have hlen := format_operands (peek s.pc s)
  simp only [← hlen, fetchInstr, fetch8_eq]
  cases hf : (opTable (peek s.pc s)).format with
  | f1 i => exact ⟨decode_f1 hf _, rfl⟩
  | f2 make => exact ⟨decode_f2 hf _ _, rfl⟩
  | f3 make => exact ⟨decode_f3 hf _ _ _, rfl⟩

end Machine

end Sys2Proof
end

section
/-! What a bus read sees, region by region (20_memory.md R71, R72, R87), the fetch where reads have no side effect, and the data
addresses (30_encoding.md R127 to R133). -/

namespace Sys2Proof.Machine

open Sys2Proof.Vocab

/-- The byte a PPU register read gives comes from the PPU alone: below the palette the buffered byte, above it a palette entry
(51_ppu.md R361). -/
theorem ppuRegRead_congr {s t : State} (h : t.ppu = s.ppu) (i : Nat) : (ppuRegRead i t).1 = (ppuRegRead i s).1 := by
  have haddr : vramAddr t = vramAddr s := by rw [vramAddr, vramAddr, h]
  unfold ppuRegRead
  split
  · simp only [statusRead, h]
  · simp only [h]
  · unfold dataRead
    simp only [haddr]
    split
    next => simp only [h]
    next hlow =>
      have hpal : ¬ vramAddr s &&& 0x3FFF#16 ≤ 0x1FFF#16 ∧ ¬ vramAddr s &&& 0x3FFF#16 ≤ 0x3EFF#16 := by
        have : vramAddr s &&& 0x3FFF#16 = vramAddr s := by rw [vramAddr, BitVec.and_assoc, BitVec.and_self]
        rw [this]
        constructor <;> bv_omega
      simp only [ppuRead, hpal, if_false, h]
  · rfl

/-- What a read at an address sees: RAM, the PPU, the controller, WRAM or the mapper's bank view, by the region of the address. -/
theorem peek_congr {s t : State} {b : Addr} (hcfg : t.cfg = s.cfg) (hhost : t.host = s.host)
    (hram : b < 0x2000#16 → Memory.read t.ram (b.toNat % 2048) = Memory.read s.ram (b.toNat % 2048))
    (hppu : 0x2000#16 ≤ b → b < 0x4000#16 → t.ppu = s.ppu) (hpad : b = 0x4016#16 → t.pad = s.pad)
    (hwram : 0x6000#16 ≤ b → b < 0x8000#16 → Memory.read t.wram (b.toNat - 0x6000) = Memory.read s.wram (b.toNat - 0x6000))
    (hmapper : 0x8000#16 ≤ b → t.mapper = s.mapper) : peek b t = peek b s := by
  unfold peek memRead
  split
  next => exact hram (by bv_omega)
  split
  next => exact ppuRegRead_congr (hppu (by bv_omega) (by bv_omega)) _
  split
  next => rfl
  split
  next h =>
    unfold padRead
    rw [hpad h, hhost]
    (repeat' split) <;> rfl
  split
  next => rfl
  split
  next => rfl
  unfold mapperCpuRead
  split
  next => rfl
  split
  next => exact hwram (by bv_omega) (by bv_omega)
  next => simp only [prgByte, prgOffset, hcfg, hmapper (by bv_omega)]

/-! The fetch where reads have no side effect -/

theorem memRead_of_quiet {a : Addr} (h : quiet a) (s : State) : memRead a s = (peek a s, s) := by
  have hpure : (memRead a s).2 = s := by
    rcases h with hlow | ⟨hhigh, hne⟩
    · exact memRead_pure (.inl (by bv_omega)) (by bv_omega) s
    · exact memRead_pure (.inr hhigh) hne s
  exact Prod.ext rfl hpure

/-- No read sees `PC`. -/
theorem peek_withPc (a w : Addr) (s : State) : peek a { s with pc := w } = peek a s :=
  peek_congr rfl rfl (fun _ => rfl) (fun _ _ => rfl) (fun _ => rfl) (fun _ _ => rfl) fun _ => rfl

theorem fetch8_of_quiet {s : State} {w : Addr} (h : quiet w) :
    fetch8 { s with pc := w } = (peek w s, { s with pc := w + 1#16 }) := by
  rw [fetch8_eq, memRead_of_quiet h, peek_withPc]

/-- Where the three bytes at `PC` are read without side effects, the fetch gives the instruction that they decode to. -/
theorem fetchInstr_of_quiet {s : State} {i : Instr} {rest : List Byte} (h0 : quiet s.pc) (h1 : quiet (s.pc + 1#16))
    (h2 : quiet (s.pc + 2#16))
    (hd : decode [peek s.pc s, peek (s.pc + 1#16) s, peek (s.pc + 2#16) s] = .ok (i, rest)) :
    fetchInstr s = (i, { s with pc := s.pc + BitVec.ofNat 16 (encode i).length, cur := encode i }) := by
  have fetch0 : fetch8 s = (peek s.pc s, { s with pc := s.pc + 1#16 }) := fetch8_of_quiet h0
  have pc2 : s.pc + 1#16 + 1#16 = s.pc + 2#16 := BitVec.add_assoc ..
  have pc3 : s.pc + 2#16 + 1#16 = s.pc + 3#16 := BitVec.add_assoc ..
  obtain ⟨op, operands, hbytes, hgives⟩ := gives_of_decode hd
  obtain ⟨rfl, hoperands⟩ := List.cons.inj hbytes
  rw [hgives.encode]
  unfold fetchInstr
  simp only [fetch0]
  cases hf : (opTable (peek s.pc s)).format with
  | f1 j =>
    rw [hf] at hgives
    cases hgives
    rfl
  | f2 make =>
    rw [hf] at hgives
    cases hgives with
    | f2 _ nn =>
      obtain ⟨rfl, -⟩ := List.cons.inj hoperands
      simp only [fetch8_of_quiet h1, pc2]
      rfl
  | f3 make =>
    rw [decode_f3 hf] at hd
    obtain ⟨rfl, rfl⟩ := Prod.mk.inj (Except.ok.inj hd)
    rw [List.append_nil] at hoperands
    subst hoperands
    simp only [fetch8_of_quiet h1, fetch8_of_quiet h2, pc2, pc3]
    rfl

/-- At an instruction boundary with nothing to take, the CPU slot fetches and executes. -/
theorem cpuSlot_boundary {s : State} (hdma : s.dma.active = false) (hidle : s.idle = 0) (hnmi : s.nmiPending = false)
    (hirq : s.irqPending = false ∨ hasFlag flagI s.p = true) : cpuSlot s = exec (fetchInstr s).1 (fetchInstr s).2 := by
  have hmasked : (s.irqPending && !hasFlag flagI s.p) = false := by rcases hirq with h | h <;> simp [h]
  simp [cpuSlot, cpuCycle, hdma, hidle, hnmi, hmasked, executeInstruction]

/-- Settles O4: at a boundary with nothing to take the slot is fetch and `exec`, and the fetch reads the three bytes as they are. -/
theorem stepRunsTheDecodedInstruction : Obligations.StepRunsTheDecodedInstruction := by
  intro s s' i rest hturn hdma hidle hnmi hirq h0 h1 h2 hd
  obtain ⟨t, ht, hstep⟩ := tick_answers s'
  refine ⟨t, ?_, by rw [← hstep, ← hturn, step]⟩
  rw [← ht, apuStep, cpuSlot_boundary hdma hidle hnmi hirq, fetchInstr_of_quiet h0 h1 h2 hd]

/-! Bit fields as numbers -/

/-- The bits of a mask from place `k` on, `n` of them, as a number. -/
theorem toNat_and_field {w : Nat} (x : BitVec w) (k n : Nat) :
    (x &&& BitVec.ofNat w ((2 ^ n - 1) * 2 ^ k)).toNat = x.toNat / 2 ^ k % 2 ^ n * 2 ^ k := by
  apply Nat.eq_of_testBit_eq
  intro i
  simp only [BitVec.toNat_and, BitVec.toNat_ofNat, Nat.testBit_and, Nat.testBit_mod_two_pow, Nat.testBit_mul_two_pow,
    Nat.testBit_two_pow_sub_one, Nat.testBit_div_two_pow]
  by_cases hi : i < w
  · by_cases hk : k ≤ i <;> simp [hi, hk, Bool.and_comm]
  · have hbit : x.toNat.testBit i = false := Nat.testBit_lt_two_pow (x.isLt.trans_le (Nat.pow_le_pow_right (by decide) (by omega)))
    by_cases hk : k ≤ i <;> simp [hbit, hk]

/-- Bits above a place and bits below it are put together by addition. -/
theorem toNat_or_of_lt {w : Nat} {x y : BitVec w} (k : Nat) (hx : x.toNat % 2 ^ k = 0) (hy : y.toNat < 2 ^ k) :
    (x ||| y).toNat = x.toNat + y.toNat := by
  have hsplit : x.toNat = 2 ^ k * (x.toNat / 2 ^ k) := (Nat.mul_div_cancel' (Nat.dvd_of_mod_eq_zero hx)).symm
  rw [BitVec.toNat_or, hsplit, Nat.two_pow_add_eq_or_of_lt hy]

theorem page_toNat (w : Addr) : (page w).toNat = w.toNat / 256 * 256 := by
  have h : (w &&& 0xFF00#16).toNat = w.toNat / 256 % 256 * 256 := by
    simpa only [Nat.reducePow, Nat.reduceSub, Nat.reduceMul] using toNat_and_field w 8 8
  have := w.isLt
  rw [page, h]
  omega

theorem page_eq_iff (a b : Addr) : page a = page b ↔ a.toNat / 256 = b.toNat / 256 := by
  rw [← BitVec.toNat_inj, page_toNat, page_toNat]
  omega

theorem page_ne_iff (a b : Addr) : (page a != page b) = true ↔ a.toNat / 256 ≠ b.toNat / 256 := by
  rw [bne_iff_ne, ne_eq, page_eq_iff]

/-! Data addresses -/

theorem add_zext16_toNat (w : Addr) (b : Byte) : (w + zext16 b).toNat = (w.toNat + b.toNat) % 65536 := by
  rw [BitVec.toNat_add, zext16_toNat]

theorem zext16_add_toNat (a b : Byte) : (zext16 (a + b)).toNat = (a.toNat + b.toNat) % 256 := by
  rw [zext16_toNat, BitVec.toNat_add]

theorem zext16_eq_ofNat {b : Byte} {n : Nat} (h : b.toNat = n % 256) : zext16 b = BitVec.ofNat 16 (n % 256) := by
  have := b.isLt
  apply BitVec.eq_of_toNat_eq
  rw [zext16_toNat, BitVec.toNat_ofNat, ← h, Nat.mod_eq_of_lt (by omega)]

theorem wordOf_toNat (hh ll : Byte) : (wordOf hh ll).toNat = hh.toNat * 256 + ll.toNat := by
  have := hh.isLt
  have := ll.isLt
  rw [wordOf, BitVec.toNat_ofNat, Nat.mod_eq_of_lt (by omega)]

/-- A page zero pointer in numbers: both bytes at places modulo 256. -/
theorem zpPointer_toNat {z : Byte} {n : Nat} (h : z.toNat = n % 256) (s : State) :
    (zpPointer z s).toNat = (peek (BitVec.ofNat 16 (n % 256)) s).toNat + 256 * (peek (BitVec.ofNat 16 ((n + 1) % 256)) s).toNat := by
  have hnext : (z + 1#8).toNat = (n + 1) % 256 := by
    rw [BitVec.toNat_add, h]
    simp
  rw [zpPointer, join_eq_wordOf, wordOf_toNat, zext16_eq_ofNat h, zext16_eq_ofNat hnext]
  omega

/-- Settles O13: each mode's address and page comparison is arithmetic on bytes and words. -/
theorem effectiveAddressesOfTheDataModes : Obligations.EffectiveAddressesOfTheDataModes := by
  intro s nn w at' pointer
  have hptr : (zpPointer nn s).toNat = pointer nn.toNat := zpPointer_toNat (by have := nn.isLt; omega) s
  refine ⟨⟨zext16_toNat nn, rfl⟩, ⟨zext16_add_toNat nn s.x, rfl⟩, ⟨zext16_add_toNat nn s.y, rfl⟩, ⟨rfl, rfl⟩,
    ⟨add_zext16_toNat w s.x, ?_⟩, ⟨add_zext16_toNat w s.y, ?_⟩,
    ⟨zpPointer_toNat (BitVec.toNat_add nn s.x) s, rfl⟩, ⟨?_, ?_⟩⟩
  · rw [pageCrossed, page_ne_iff, add_zext16_toNat]
  · rw [pageCrossed, page_ne_iff, add_zext16_toNat]
  · rw [effAddr, add_zext16_toNat, hptr]
  · rw [pageCrossed, page_ne_iff, add_zext16_toNat, hptr]

end Sys2Proof.Machine
end

section
/-! What each instruction completes with: loads, stores, transfers, arithmetic, logic, shifts, jumps, branches, flags, holes (files 40 to
45 of the spec). -/

namespace Sys2Proof.Machine

open Sys2Proof.Vocab

/-! A family of forms in one comparison -/

theorem runAsReadClass_of_map {fs : List ReadForm} {op : Byte → State → State} {s : State}
    (h : fs.map (fun f => (encode f.instr, exec f.instr s)) =
      fs.map fun f => (f.bytes, .next (readClass f.cycles f.marked f.source op s))) : runAsReadClass fs op s :=
  fun f hf => Prod.mk.inj (List.map_inj_left.1 h f hf)

theorem runAsRmwClass_of_map {fs : List MemForm} {f : Byte → State → Byte} {g : Byte → Byte → State → State} {s : State}
    (h : fs.map (fun F => (encode F.instr, exec F.instr s)) = fs.map fun F => (F.bytes, .next (rmwClass F.cycles F.mode f g s))) :
    runAsRmwClass fs f g s :=
  fun F hF => Prod.mk.inj (List.map_inj_left.1 h F hF)

theorem stores_of_map {fs : List MemForm} {s : State} {v : Byte}
    (h : fs.map (fun F => (encode F.instr, exec F.instr s)) = fs.map fun F => (F.bytes, .next (writeClass F.cycles F.mode v s))) :
    stores fs s v :=
  fun F hF => Prod.mk.inj (List.map_inj_left.1 h F hF)

/-- Forms whose operation, after the operand's read, has an effect that A, X, Y and P before the instruction determine. -/
theorem reads_of_map {fs : List ReadForm} {op : Byte → State → State} {s : State} {effect : Byte → State → State}
    (h : fs.map (fun f => (encode f.instr, exec f.instr s)) =
      fs.map fun f => (f.bytes, .next (readClass f.cycles f.marked f.source op s)))
    (he : ∀ m t, t.a = s.a → t.x = s.x → t.y = s.y → t.p = s.p → op m t = effect m t) : reads fs s effect :=
  reads_of_runAsReadClass (runAsReadClass_of_map h) fun o => he _ _ (readSource_a o s) (readSource_x o s) (readSource_y o s) (readSource_p o s)

/-! Loads, stores, transfers, register increments -/

/-- Settles O14: a load writes its register and, through `SetZN`, the P that its operand's read leaves. -/
theorem loadsAndStoresCompleteWithTheirResult : Obligations.LoadsAndStoresCompleteWithTheirResult := by
  intro s nn w
  refine ⟨reads_of_map (op := lda) rfl fun m t _ _ _ hp => ?_, reads_of_map (op := ldx) rfl fun m t _ _ _ hp => ?_,
    reads_of_map (op := ldy) rfl fun m t _ _ _ hp => ?_, stores_of_map rfl, stores_of_map rfl, stores_of_map rfl⟩
  · rw [lda, setZN_eq, ← hp]
  · rw [ldx, setZN_eq, ← hp]
  · rw [ldy, setZN_eq, ← hp]

/-- Settles O15: each writes its register and sets Z and N from it, TXS alone no flag. -/
theorem registerInstructionsCompleteWithTheirResult : Obligations.RegisterInstructionsCompleteWithTheirResult :=
  fun _ => ⟨runs_of_retire rfl rfl (setZN_eq ..), runs_of_retire rfl rfl (setZN_eq ..), runs_of_retire rfl rfl (setZN_eq ..),
    runs_of_retire rfl rfl (setZN_eq ..), runs_of_retire rfl rfl (setZN_eq ..), runs_of_retire rfl rfl rfl,
    runs_of_retire rfl rfl (setZN_eq ..), runs_of_retire rfl rfl (setZN_eq ..), runs_of_retire rfl rfl (setZN_eq ..),
    runs_of_retire rfl rfl (setZN_eq ..)⟩

/-! Arithmetic, logic, compares -/

/-- Settles O17: SBC adds the complement, which is the subtraction with borrow (`subWithBorrow_eq`). -/
theorem sbcSubtractsWithBorrowAndSignedOverflow : Obligations.SbcSubtractsWithBorrowAndSignedOverflow := by
  intro s nn w
  refine reads_of_map (op := sbc) rfl fun m t ha _ _ hp => ?_
  rw [sbc, subWithBorrow_eq, ha, hp]

/-- A compare is `SetZN` of the difference after C (R185). -/
theorem compare_eq (r m : Byte) (s : State) : Machine.compare r m s = { s with p := compareP r m s.p } := by
  have hzero : (r == m) = (r - m == 0#8) := by
    rw [Bool.eq_iff_iff, beq_iff_eq, beq_iff_eq, BitVec.sub_eq_iff_eq_add, BitVec.zero_add]
  rw [Machine.compare, hzero]
  exact (setZN_eq (r - m) _).trans (by rw [setFlag, putFlag_flagC]; rfl)

/-- BIT's flags as one bit formula: N and V from the byte, Z from the mask, the other five bits kept (R188). -/
theorem bitTest_eq (m : Byte) (s : State) : bitTest m s =
    { s with p := (s.p &&& 0x3D#8) ||| (m &&& 0xC0#8) ||| (if s.a &&& m = 0#8 then 0x02#8 else 0x00#8) } := by
  have hflags : ∀ (v n z : Bool) (p : Byte), putFlag flagV v (putFlag flagN n (putFlag flagZ z p)) =
      (p &&& 0x3D#8) ||| ((if n then 0x80#8 else 0x00#8) ||| (if v then 0x40#8 else 0x00#8)) ||| (if z then 0x02#8 else 0x00#8) := by
    decide
  have htop : ∀ b : Byte, (if b.getLsbD 7 then 0x80#8 else 0x00#8) ||| (if b.getLsbD 6 then 0x40#8 else 0x00#8) = b &&& 0xC0#8 := by
    decide
  simp only [bitTest, setFlag, hflags, htop, beq_iff_eq]

/-- Settles O18: the operand's read leaves the registers and P, and each operation is its flag formula on them. -/
theorem logicAndComparesCompleteWithTheirResult : Obligations.LogicAndComparesCompleteWithTheirResult := by
  intro s nn w
  refine ⟨reads_of_map (op := and) rfl fun m t ha _ _ hp => ?_, reads_of_map (op := ora) rfl fun m t ha _ _ hp => ?_,
    reads_of_map (op := eor) rfl fun m t ha _ _ hp => ?_, reads_of_map (op := cmp) rfl fun m t ha _ _ hp => ?_,
    reads_of_map (op := cpx) rfl fun m t _ hx _ hp => ?_, reads_of_map (op := cpy) rfl fun m t _ _ hy hp => ?_,
    reads_of_map (op := bit) rfl fun m t ha _ _ hp => ?_⟩
  · rw [and, setZN_eq, ← ha, ← hp]
  · rw [ora, setZN_eq, ← ha, ← hp]
  · rw [eor, setZN_eq, ← ha, ← hp]
  · rw [cmp, compare_eq, ha, hp]
  · rw [cpx, compare_eq, hx, hp]
  · rw [cpy, compare_eq, hy, hp]
  · rw [bit, bitTest_eq, ha, hp]

/-! Increments, shifts and rotates of memory and of A -/

theorem rolByte_eq (m : Byte) (s : State) : rolByte m s = BitVec.ofNat 8 (2 * m.toNat + carry s.p) := rlaByte_eq m s

theorem rorByte_eq (m : Byte) (s : State) : rorByte m s = BitVec.ofNat 8 (m.toNat / 2 + 128 * carry s.p) := by
  have hmove : carryByte s.p <<< 7 = if hasFlag flagC s.p then 0x80#8 else 0x00#8 := by
    rw [carryByte]
    split <;> rfl
  rw [rorByte, hmove]
  exact rraByte_eq m s

/-- The flags after a shift: C the bit that left, then Z and N. -/
theorem setZN_setC_eq (r : Byte) (c : Bool) (s : State) : setZN r (setFlag flagC c s) = { s with p := nz r (putC c s.p) } := by
  rw [setZN_eq, setFlag, putFlag_flagC]

/-- Settles O19: the operation's byte depends on the operand and the carry alone, and its flags come after C from the bit shifted out. -/
theorem incDecAndShiftsCompleteWithTheirResult : Obligations.IncDecAndShiftsCompleteWithTheirResult := by
  intro s nn w asl lsr rol ror out7 out0
  have left (m r : Byte) (t : State) (hp : t.p = s.p) : setZN r (setFlag flagC (m.getLsbD 7) t) = { t with p := out7 r m } := by
    rw [setZN_setC_eq, hp, bit7_eq]
  have right (m r : Byte) (t : State) (hp : t.p = s.p) : setZN r (setFlag flagC (m.getLsbD 0) t) = { t with p := out0 r m } := by
    rw [setZN_setC_eq, hp, bit0_eq]
  have plain (r : Byte) (t : State) (hp : t.p = s.p) : setZN r t = { t with p := nz r s.p } := by rw [setZN_eq, hp]
  have hasl (m : Byte) (t : State) : aslByte m t = asl m := shiftLeft_one_eq m
  have hlsr (m : Byte) (t : State) : lsrByte m t = lsr m := shiftRight_one_eq m
  have hrol (m : Byte) (t : State) (hp : t.p = s.p) : rolByte m t = rol m := by rw [rolByte_eq, hp]
  have hror (m : Byte) (t : State) (hp : t.p = s.p) : rorByte m t = ror m := by rw [rorByte_eq, hp]
  refine ⟨updates_of_runAsRmwClass (f := incByte) (g := incAfter) (runAsRmwClass_of_map rfl) (fun _ _ _ => rfl) fun m t _ => plain _ t,
    updates_of_runAsRmwClass (f := decByte) (g := decAfter) (runAsRmwClass_of_map rfl) (fun _ _ _ => rfl) fun m t _ => plain _ t,
    updates_of_runAsRmwClass (f := aslByte) (g := aslAfter) (runAsRmwClass_of_map rfl) (fun m t _ => hasl m t) fun m t _ => left m _ t,
    updates_of_runAsRmwClass (f := lsrByte) (g := lsrAfter) (runAsRmwClass_of_map rfl) (fun m t _ => hlsr m t) fun m t _ => right m _ t,
    updates_of_runAsRmwClass (f := rolByte) (g := rolAfter) (runAsRmwClass_of_map rfl) hrol fun m t _ => left m _ t,
    updates_of_runAsRmwClass (f := rorByte) (g := rorAfter) (runAsRmwClass_of_map rfl) hror fun m t _ => right m _ t,
    runs_of_retire rfl rfl ?_, runs_of_retire rfl rfl ?_, runs_of_retire rfl rfl ?_, runs_of_retire rfl rfl ?_⟩
  · rw [← hasl s.a s]
    exact left s.a _ { s with a := aslByte s.a s } rfl
  · rw [← hlsr s.a s]
    exact right s.a _ { s with a := lsrByte s.a s } rfl
  · rw [← hrol s.a s rfl]
    exact left s.a _ { s with a := rolByte s.a s } rfl
  · rw [← hror s.a s rfl]
    exact right s.a _ { s with a := rorByte s.a s } rfl

/-! Jumps and branches -/

theorem hasFlag_eq_getLsbD (p : Byte) :
    hasFlag flagC p = p.getLsbD 0 ∧ hasFlag flagZ p = p.getLsbD 1 ∧ hasFlag flagI p = p.getLsbD 2 ∧ hasFlag flagV p = p.getLsbD 6 ∧
      hasFlag flagN p = p.getLsbD 7 := by
  revert p
  decide

theorem branchTarget_eq (d : Byte) (s : State) : branchTarget d s = BitVec.ofInt 16 (s.pc.toNat + d.toInt) := by
  rw [branchTarget, sext16, BitVec.signExtend, BitVec.ofInt_add]
  simp

/-- A branch with its condition, its target in numbers, and its cycles by the page of the target (R129, R137, R213). -/
theorem branches_of_branch {i : Instr} {bytes : List Byte} {c taken : Bool} {d : Byte} {s : State} (hbytes : encode i = bytes)
    (hexec : exec i s = .next (branch c d s)) (hc : c = taken) : branches i bytes taken d s := by
  refine ⟨hbytes, ?_⟩
  rw [hexec, branch, branchTarget_eq, hc]
  generalize BitVec.ofInt 16 (s.pc.toNat + d.toInt) = target
  cases taken with
  | false => rfl
  | true => by_cases hsame : target.toNat / 256 = s.pc.toNat / 256 <;> simp [retire, page_eq_iff, hsame]

/-- The high byte of an indirect jump's target comes from the page of the pointer (R131). -/
theorem pointerHigh_eq (w : Addr) :
    page w ||| ((w + 1#16) &&& 0x00FF#16) = BitVec.ofNat 16 (w.toNat / 256 * 256 + (w.toNat + 1) % 256) := by
  have hw := w.isLt
  have hlow : ((w + 1#16) &&& 0x00FF#16).toNat = (w.toNat + 1) % 256 := by
    have h := toNat_and_field (w + 1#16) 0 8
    simp only [Nat.reducePow, Nat.reduceSub, Nat.div_one, Nat.mul_one, BitVec.toNat_add, BitVec.toNat_ofNat] at h
    rw [h]
    omega
  apply BitVec.eq_of_toNat_eq
  rw [toNat_or_of_lt 8 (by rw [page_toNat]; omega) (by rw [hlow]; omega), page_toNat, hlow, BitVec.toNat_ofNat]
  omega

/-- Settles O23: JMP takes its operand or the word at its pointer, a branch compares its flag bit. -/
theorem jumpsAndBranchesComplete : Obligations.JumpsAndBranchesComplete := by
  intro s w d low high
  obtain ⟨hC, hZ, -, hV, hN⟩ := hasFlag_eq_getLsbD s.p
  refine ⟨⟨rfl, rfl⟩, runs_of_retire rfl rfl ?_, branches_of_branch rfl rfl (by rw [hC]), branches_of_branch rfl rfl hC,
    branches_of_branch rfl rfl hZ, branches_of_branch rfl rfl (by rw [hZ]), branches_of_branch rfl rfl hN,
    branches_of_branch rfl rfl (by rw [hN]), branches_of_branch rfl rfl (by rw [hV]), branches_of_branch rfl rfl hV⟩
  rw [jumpIndirect, indirectTarget, pointerHigh_eq, join_eq_wordOf]

/-! Flag instructions, NOP and the holes -/

/-- Settles O27: each writes its one bit of P by a mask. -/
theorem flagInstructionsAndNopComplete : Obligations.FlagInstructionsAndNopComplete :=
  fun _ => ⟨⟨rfl, rfl⟩, ⟨rfl, rfl⟩, ⟨rfl, rfl⟩, ⟨rfl, rfl⟩, ⟨rfl, rfl⟩, ⟨rfl, rfl⟩, ⟨rfl, rfl⟩, ⟨rfl, rfl⟩⟩

/-- Settles O28: one comparison of all 53 forms. -/
theorem holesCompleteWithNoEffect : Obligations.HolesCompleteWithNoEffect := by
  intro s f hf
  have all : holeForms.map (fun f => (encode f.1, exec f.1 s)) = holeForms.map fun f => (f.2, .next { s with idle := 0 }) := rfl
  exact Prod.mk.inj (List.map_inj_left.1 all f hf)

end Sys2Proof.Machine
end

section
/-! The stack and the exceptions (20_memory.md R80 to R84, 44_stack_flags.md R230 to R233, 43_control_flow.md R222, R223, 60_exceptions.md
R523 to R535). -/

namespace Sys2Proof.Machine

open Sys2Proof.Vocab

/-! The stack instructions -/

theorem push_eq_ram1 (v : Byte) (s : State) : push v s = { s with ram := ram1 s v, s := s.s - 1#8 } := by
  rw [push_eq, ram1, slotDown_zero]

theorem pla_eq (s : State) : pla s = { s with a := stacked s 1, s := s.s + 1#8, p := nz (stacked s 1) s.p } := by
  rw [pla, pull_eq_stacked]
  exact setZN_eq ..

theorem plp_eq (s : State) : plp s = { s with p := pulledStatus (stacked s 1), s := s.s + 1#8 } := by
  rw [plp, pull_eq_stacked]

/-- Settles O26: a push fills the slot of `S`, a pull takes the slot above it. -/
theorem stackInstructionsCompleteOnTheStack : Obligations.StackInstructionsCompleteOnTheStack :=
  fun s => ⟨runs_of_retire rfl rfl (push_eq_ram1 s.a s), runs_of_retire rfl rfl (push_eq_ram1 (pushedWithB s.p) s),
    runs_of_retire rfl rfl (pla_eq s), runs_of_retire rfl rfl (plp_eq s)⟩

/-! What is pushed is stacked -/

theorem slotUp_eq_slotDown {s t : State} {n k : Byte} (hs : t.s = s.s - n) : slotUp t k = slotDown s (n - k) := by
  rw [slotUp, slotDown, hs]
  congr 2
  bv_omega

/-- Slots apart stay apart where the stack pointer wraps. -/
theorem slotDown_ne {s : State} {j k : Byte} (h : j ≠ k) : slotDown s j ≠ slotDown s k := by
  intro heq
  have : s.s - j = s.s - k := BitVec.eq_of_toNat_eq (Nat.add_left_cancel heq)
  exact h (by bv_omega)

theorem stacked_of_ram1 {s t : State} {b0 : Byte} (hram : t.ram = ram1 s b0) (hs : t.s = s.s - 1#8) : stacked t 1 = b0 := by
  rw [stacked, slotUp_eq_slotDown hs, hram]
  exact Memory.read_write_same ..

theorem stacked_of_ram2 {s t : State} {b0 b1 : Byte} (hram : t.ram = ram2 s b0 b1) (hs : t.s = s.s - 2#8) :
    stacked t 2 = b0 ∧ stacked t 1 = b1 := by
  rw [stacked, stacked, slotUp_eq_slotDown hs, slotUp_eq_slotDown hs, hram, ram2, ram1]
  exact ⟨(Memory.read_write_other _ _ (slotDown_ne (by decide))).trans (Memory.read_write_same ..), Memory.read_write_same ..⟩

theorem stacked_of_ram3 {s t : State} {b0 b1 b2 : Byte} (hram : t.ram = ram3 s b0 b1 b2) (hs : t.s = s.s - 3#8) :
    stacked t 3 = b0 ∧ stacked t 2 = b1 ∧ stacked t 1 = b2 := by
  rw [stacked, stacked, stacked, slotUp_eq_slotDown hs, slotUp_eq_slotDown hs, slotUp_eq_slotDown hs, hram, ram3, ram2, ram1]
  exact ⟨(Memory.read_write_other _ _ (slotDown_ne (by decide))).trans
      ((Memory.read_write_other _ _ (slotDown_ne (by decide))).trans (Memory.read_write_same ..)),
    (Memory.read_write_other _ _ (slotDown_ne (by decide))).trans (Memory.read_write_same ..), Memory.read_write_same ..⟩

theorem wordOf_bytes (w : Addr) : wordOf (hiByte w) (loByte w) = w := by
  rw [← hi_eq_hiByte, ← lo_eq_loByte, ← join_eq_wordOf, join_hi_lo]

/-- A well-formed status comes back from the stack, whatever bits 5 and 4 were pushed as (R24). -/
theorem pulledStatus_pushed {p : Byte} (h : p &&& 0x30#8 = 0x20#8) :
    pulledStatus (pushedWithB p) = p ∧ pulledStatus (pushedWithoutB p) = p := by
  revert p
  decide

/-- Settles O36: the pull takes the slots that the push filled. -/
theorem stackPairsRoundTrip : Obligations.StackPairsRoundTrip := by
  intro s t u w
  have up1 : s.s - 1#8 + 1#8 = s.s := BitVec.sub_add_cancel ..
  have up2 : s.s - 2#8 + 2#8 = s.s := BitVec.sub_add_cancel ..
  refine ⟨fun ht hu => ?_, fun hp ht hu => ?_, fun ht hu => ?_⟩
  · obtain rfl := Host.Outcome.next.inj ((runs_of_retire rfl rfl (push_eq_ram1 s.a s) : runs .pha _ 3 s _).2.symm.trans ht)
    obtain rfl := Host.Outcome.next.inj ((runs_of_retire rfl rfl (pla_eq _) : runs .pla _ 4 _ _).2.symm.trans hu)
    exact ⟨stacked_of_ram1 rfl rfl, up1⟩
  · obtain rfl := Host.Outcome.next.inj
      ((runs_of_retire rfl rfl (push_eq_ram1 (pushedWithB s.p) s) : runs .php _ 3 s _).2.symm.trans ht)
    obtain rfl := Host.Outcome.next.inj ((runs_of_retire rfl rfl (plp_eq _) : runs .plp _ 4 _ _).2.symm.trans hu)
    exact ⟨(congrArg pulledStatus (stacked_of_ram1 rfl rfl)).trans (pulledStatus_pushed hp).1, up1⟩
  · obtain rfl := Host.Outcome.next.inj ((jsrAndRtsCompleteOnTheStack s w).1.2.symm.trans ht)
    obtain rfl := Host.Outcome.next.inj ((jsrAndRtsCompleteOnTheStack _ w).2.2.symm.trans hu)
    obtain ⟨high, low⟩ := stacked_of_ram2 (s := s) (t := { s with
      ram := ram2 s (hiByte (s.pc - 1#16)) (loByte (s.pc - 1#16)), s := s.s - 2#8, pc := w, idle := 6 - 1 }) rfl rfl
    refine ⟨?_, up2⟩
    show wordOf (stacked _ 2) (stacked _ 1) + 1#16 = s.pc
    rw [high, low, wordOf_bytes, BitVec.sub_add_cancel]

/-! Taking an exception -/

theorem quiet_of_cartridge {a : Addr} (h : 0x6000#16 ≤ a) : quiet a := .inr ⟨by bv_omega, by bv_omega⟩

/-- After an address of the cartridge comes another or, from $FFFF, one of RAM. -/
theorem quiet_next_of_cartridge {a : Addr} (h : 0x6000#16 ≤ a) : quiet (a + 1#16) := by
  by_cases hend : a = 0xFFFF#16
  · exact .inl (by subst hend; decide)
  · exact quiet_of_cartridge (by bv_omega)

theorem read16_of_quiet {a : Addr} (h : quiet a) (h' : quiet (a + 1#16)) (s : State) :
    read16 a s = (wordOf (peek (a + 1#16) s) (peek a s), s) := by
  rw [read16, memRead_of_quiet h, memRead_of_quiet h', join_eq_wordOf]

theorem push3_eq (w : Addr) (b : Byte) (s : State) :
    push b (push16 w s) = { s with ram := ram3 s (hiByte w) (loByte w) b, s := s.s - 3#8 } := by
  have hdown : s.s - 2#8 - 1#8 = s.s - 3#8 := BitVec.sub_sub ..
  rw [push16_eq_ram2, push_eq]
  simp only [hdown]
  rfl

/-- Taking an exception fills three slots, writes P and loads PC; what the vector reads is seen after the pushes (R530). -/
theorem takeException_eq {vec : Addr} (hvec : 0x6000#16 ≤ vec) (pushed : Byte) (after : Byte → Byte) (s : State) :
    takeException vec pushed after s =
      { s with
        ram := ram3 s (hiByte s.pc) (loByte s.pc) pushed, s := s.s - 3#8, p := after s.p ||| 0x04#8,
        pc := (takeException vec pushed after s).pc } := by
  simp only [takeException, push3_eq, read16_of_quiet (quiet_of_cartridge hvec) (quiet_next_of_cartridge hvec)]
  rfl

/-- The vectors of the CPU lie in the cartridge, where no read sees RAM, S or P. -/
theorem takeException_pc {vec : Addr} (hvec : 0x6000#16 ≤ vec) (hend : vec ≠ 0xFFFF#16) (pushed : Byte) (after : Byte → Byte) (s : State) :
    (takeException vec pushed after s).pc = wordOf (peek (vec + 1#16) s) (peek vec s) := by
  have unseen {a : Addr} (ha : 0x6000#16 ≤ a) {t : State} (ht : t = { s with ram := t.ram, s := t.s, p := t.p }) :
      peek a t = peek a s := by
    rw [ht]
    exact peek_congr rfl rfl (fun h => absurd h (by bv_omega)) (fun _ _ => rfl) (fun _ => rfl) (fun _ _ => rfl) fun _ => rfl
  simp only [takeException, push3_eq, read16_of_quiet (quiet_of_cartridge hvec) (quiet_next_of_cartridge hvec)]
  rw [unseen hvec rfl, unseen (a := vec + 1#16) (by bv_omega) rfl]

/-- Settles O24: BRK's entry is the exception with the status pushed with B set, from the address past the padding byte. -/
theorem brkEntersItsHandler : Obligations.BrkEntersItsHandler := by
  refine fun s => runs_of_retire rfl rfl ?_
  rw [breakEntry, takeException_eq (by decide), takeException_pc (by decide) (by decide), peek_withPc, peek_withPc]
  rfl

theorem interruptEntry_eq {vec : Addr} (hvec : 0x6000#16 ≤ vec) (hend : vec ≠ 0xFFFF#16) (s : State) :
    interruptEntry vec s =
      { s with
        ram := ram3 s (hiByte s.pc) (loByte s.pc) ((s.p &&& 0xEF#8) ||| 0x20#8), s := s.s - 3#8, p := (s.p &&& 0xF7#8) ||| 0x04#8,
        pc := wordOf (peek (vec + 1#16) s) (peek vec s) } := by
  rw [interruptEntry, takeException_eq hvec, takeException_pc hvec hend]
  rfl

/-- Settles O42: with no cycles owed the cycle is the poll, NMI before IRQ, and the entry sees the state with its latch cleared. -/
theorem interruptEntrySavesAndVectors : Obligations.InterruptEntrySavesAndVectors := by
  intro s hidle
  refine ⟨fun hnmi => ?_, fun hnmi hirq hmask => ?_⟩
  · have hcycle : cpuCycle s = .next (takeNmi s) := by simp [cpuCycle, hidle, hnmi]
    rw [hcycle, takeNmi, interruptEntry_eq (by decide) (by decide)]
    rfl
  · obtain ⟨-, -, hI, -, -⟩ := hasFlag_eq_getLsbD s.p
    have hcycle : cpuCycle s = .next (takeIrq s) := by simp [cpuCycle, hidle, hnmi, hirq, hI.trans hmask]
    rw [hcycle, takeIrq, interruptEntry_eq (by decide) (by decide)]
    rfl

/-- RTI after three pushes gives the address and the status that they stacked, and S before them. -/
theorem rti_after_push3 {s e u : State} {w : Addr} {b : Byte} (hram : e.ram = ram3 s (hiByte w) (loByte w) b) (hs : e.s = s.s - 3#8)
    (hu : exec .rti e = .next u) :
    u.pc = w ∧ u.p = pulledStatus b ∧ u.s = s.s ∧ u.a = e.a ∧ u.x = e.x ∧ u.y = e.y := by
  obtain ⟨high, low, status⟩ := stacked_of_ram3 hram hs
  obtain rfl := Host.Outcome.next.inj ((runs_of_retire rfl rfl (returnFromException_eq e) : runs .rti _ 6 e _).2.symm.trans hu)
  rw [high, low, status, wordOf_bytes, hs, BitVec.sub_add_cancel]
  exact ⟨rfl, rfl, rfl, rfl, rfl, rfl⟩

/-- Settles O44: RTI pulls the three slots that the entry filled, and a well-formed status comes back whichever way it was pushed. -/
theorem rtiUndoesAnEntry : Obligations.RtiUndoesAnEntry := by
  intro s t u vec hp hvec
  obtain ⟨hB, hnoB⟩ := pulledStatus_pushed hp
  refine ⟨fun hu => ?_, fun ht hu => ?_⟩
  · rw [interruptEntry, takeException_eq hvec] at hu
    obtain ⟨hpc, hstatus, hrest⟩ := rti_after_push3 (s := s) rfl rfl hu
    exact ⟨hpc, hstatus.trans hnoB, hrest⟩
  · obtain rfl := Host.Outcome.next.inj ((brkEntersItsHandler s).2.symm.trans ht)
    obtain ⟨hpc, hstatus, hrest⟩ := rti_after_push3 (s := s) rfl rfl hu
    exact ⟨hpc, hstatus.trans hB, hrest⟩

end Sys2Proof.Machine
end

section
/-! What `exec` does, read off the opcode table: the operation names the meaning, the addressing mode the operand, and the row the cycles
(30_encoding.md R134 to R137, R140). -/

namespace Sys2Proof

/-- The data address mode that a row makes of operands. -/
def OpRow.data (r : OpRow) (nn : Byte) (w : Addr) : Option Machine.AddrMode :=
  match r.mode with
  | .zp => some (.zp nn)
  | .zpx => some (.zpx nn)
  | .zpy => some (.zpy nn)
  | .izx => some (.izx nn)
  | .izy => some (.izy nn)
  | .abs => if r.op = .jmp ∨ r.op = .jsr then none else some (.abs w)
  | .abx => some (.abx w)
  | .aby => some (.aby w)
  | .imp | .acc | .imm | .ind | .rel => none

namespace Machine

open Sys2Proof.Vocab

/-- The meaning that a row gives operands: the lists of operations by class, then the jumps. -/
def OpRow.meaning (r : OpRow) (nn : Byte) (w : Addr) (s : State) : State :=
  match readOps.lookup r.op with
  | some f =>
    readClass r.base r.penalty (match r.data nn w with
      | some m => .mem m
      | none => .imm nn) f s
  | none =>
  match storeOps.lookup r.op, r.data nn w with
  | some v, some m => writeClass r.base m (v s) s
  | some _, none => s
  | none, d =>
  match rmwOps.lookup r.op, d with
  | some (f, g), some m => rmwClass r.base m f g s
  | some (f, g), none => accClass r.base f g s
  | none, _ =>
  match branchOps.lookup r.op, (registerOps ++ stackOps).lookup r.op with
  | some c, _ => branch (c s) nn s
  | none, some f => retire r.base (f s)
  | none, none =>
    retire r.base (if r.op = .jsr then jsr w s else if r.mode = .ind then jumpIndirect w s else jump w s)

/-- `exec` is the table: one comparison of all 256 meanings, the operands left open. -/
theorem exec_opTable (op nn : Byte) (w : Addr) (s : State) :
    exec ((opTable op).format.instr nn w) s = .next (OpRow.meaning (opTable op) nn w s) := by
  refine eq_of_rows (f := fun op => exec ((opTable op).format.instr nn w) s)
    (g := fun op => .next (OpRow.meaning (opTable op) nn w s)) (fun h hh => ?_) op
  interval_cases h <;> rfl

/-! Facts that hold of every row of the table -/

theorem opTable_base_pos : ∀ op : Byte, 1 ≤ (opTable op).base := by decide

theorem opTable_penalty : ∀ op : Byte, (opTable op).penalty = true → (opTable op).op ∈ readOps.map Prod.fst := by decide

theorem opTable_branch : ∀ op : Byte, (opTable op).op ∈ branchOps.map Prod.fst → (opTable op).base = 2 ∧ (opTable op).mode = .rel := by
  decide

theorem opTable_plain : ∀ op : Byte, (opTable op).op ∈ (registerOps ++ stackOps).map Prod.fst → (opTable op).mode = .imp := by decide

/-- The modes that name a data address. -/
def memoryModes : List Mode := [.zp, .zpx, .zpy, .izx, .izy, .abs, .abx, .aby]

theorem OpRow.data_ne_none {r : OpRow} (h : r.mode ∈ memoryModes ∧ r.op ∉ [.jmp, .jsr]) (nn : Byte) (w : Addr) :
    r.data nn w ≠ none := by
  unfold OpRow.data
  split <;> simp_all [memoryModes]

theorem OpRow.data_eq_none {r : OpRow} (hm : r.mode ∉ memoryModes) (nn : Byte) (w : Addr) : r.data nn w = none := by
  unfold OpRow.data
  split <;> simp_all [memoryModes]

theorem opTable_store : ∀ op : Byte, (opTable op).op ∈ storeOps.map Prod.fst →
    (opTable op).mode ∈ memoryModes ∧ (opTable op).op ∉ [.jmp, .jsr] := by decide

/-- A read-modify-write instruction has a data address, or it is a shift of the accumulator (R125). -/
theorem opTable_rmw : ∀ op : Byte, (opTable op).op ∈ rmwOps.map Prod.fst →
    (opTable op).mode ∈ memoryModes ∧ (opTable op).op ∉ [.jmp, .jsr] ∨ (opTable op).mode = .acc ∧ (opTable op).op ∈ shifts := by decide

/-- Outside the lists of operations stand the jumps. -/
theorem opTable_jumps : ∀ op : Byte,
    (opTable op).op ∈ readOps.map Prod.fst ++ storeOps.map Prod.fst ++ rmwOps.map Prod.fst ++ branchOps.map Prod.fst ++
      (registerOps ++ stackOps).map Prod.fst ∨ op ∈ [0x20#8, 0x4C#8, 0x6C#8] := by decide

/-! Every instruction is a row with operands -/

theorem row_of_encode {i : Instr} {op : Byte} {operands : List Byte} (h : encode i = op :: operands) : i.row = opTable op := by
  rw [Instr.row, Instr.opcode, h]
  rfl

theorem dataMode_opTable (op nn : Byte) (w : Addr) :
    dataMode ((opTable op).format.instr nn w) = (opTable op).data nn w := by
  have hlen := format_operands op
  have hrow := row_of_encode (encode_opTable op nn w)
  simp only [dataMode, Instr.mode, Instr.op, hrow, encode_opTable, OpRow.data]
  clear hrow
  generalize (opTable op).format = f at hlen ⊢
  generalize (opTable op).mode = m at hlen ⊢
  cases f <;> cases m <;> simp_all [Format.operands, Mode.length, Format.bytes]

theorem exists_row (i : Instr) : ∃ op nn w, i = (opTable op).format.instr nn w ∧ i.row = opTable op := by
  obtain ⟨op, operands, hencode, hgives⟩ := exists_gives i
  have hrow := row_of_encode hencode
  generalize hf : (opTable op).format = f at hgives
  cases hgives with
  | f1 => exact ⟨op, 0, 0, by rw [hf]; rfl, hrow⟩
  | f2 make nn => exact ⟨op, nn, 0, by rw [hf]; rfl, hrow⟩
  | f3 make w => exact ⟨op, 0, w, by rw [hf]; rfl, hrow⟩

/-- The data address mode that an operand names. -/
def Source.addr : Source → Option AddrMode
  | .imm _ => none
  | .mem m => some m

/-- What an instruction does, with the operation, the operand and the cycles that its row gives. -/
inductive Runs (i : Instr) (s : State) : State → Prop where
  | read {f : Byte → State → State} (hf : (i.op, f) ∈ readOps) (o : Source) (ho : o.addr = dataMode i) :
    Runs i s (readClass i.row.base i.row.penalty o f s)
  | write {v : State → Byte} (hv : (i.op, v) ∈ storeOps) {m : AddrMode} (hm : dataMode i = some m) :
    Runs i s (writeClass i.row.base m (v s) s)
  | rmw {f : Byte → State → Byte} {g : Byte → Byte → State → State} (hf : (i.op, f, g) ∈ rmwOps) {m : AddrMode}
    (hm : dataMode i = some m) : Runs i s (rmwClass i.row.base m f g s)
  | acc {f : Byte → State → Byte} {g : Byte → Byte → State → State} (hf : (i.op, f, g) ∈ rmwOps) (hm : dataMode i = none)
    (hacc : i.mode = .acc ∧ i.op ∈ shifts) : Runs i s (accClass i.row.base f g s)
  | branch {c : State → Bool} (hc : (i.op, c) ∈ branchOps) (d : Byte) : Runs i s (branch (c s) d s)
  | register {f : State → State} (hf : (i.op, f) ∈ registerOps) (hm : dataMode i = none) : Runs i s (retire i.row.base (f s))
  | stack {f : State → State} (hf : (i.op, f) ∈ stackOps) (hm : dataMode i = none) : Runs i s (retire i.row.base (f s))
  | jump (w : Addr) (hop : i.op = .jmp) (hm : dataMode i = none) : Runs i s (retire i.row.base (jump w s))
  | jumpIndirect (w : Addr) (hop : i.op = .jmp) (hi : i = .jmpInd w) : Runs i s (retire i.row.base (jumpIndirect w s))
  | jsr (w : Addr) (hop : i.op = .jsr) : Runs i s (retire i.row.base (jsr w s))

theorem mem_of_lookup {β : Type} {l : List (Op × β)} {o : Op} {b : β} (h : l.lookup o = some b) : (o, b) ∈ l := by
  obtain ⟨before, after, rfl, -⟩ := List.lookup_eq_some_iff.1 h
  simp

theorem not_mem_of_lookup {β : Type} {l : List (Op × β)} {o : Op} (h : l.lookup o = none) : o ∉ l.map Prod.fst := by
  intro hmem
  obtain ⟨⟨o', b⟩, hb, rfl⟩ := List.mem_map.1 hmem
  exact absurd (List.lookup_eq_none_iff.1 h _ hb) (by simp)

/-- Every answer of `exec` is the one that the instruction's row gives. -/
theorem exec_runs {i : Instr} {s t : State} (h : exec i s = .next t) : Runs i s t := by
  obtain ⟨op, nn, w, hi, hrow⟩ := exists_row i
  have hdata : dataMode i = i.row.data nn w := by rw [hrow, hi, dataMode_opTable]
  obtain rfl : t = OpRow.meaning i.row nn w s := by
    rw [hi, exec_opTable, ← hrow] at h
    exact (Host.Outcome.next.inj h).symm
  have hop : ∀ {β : Type} {l : List (Op × β)} {b : β}, l.lookup i.row.op = some b → i.row.op ∈ l.map Prod.fst :=
    fun h => List.mem_map_of_mem (mem_of_lookup h)
  unfold OpRow.meaning
  split
  next f hf => exact .read (mem_of_lookup hf) _ (by rw [hdata]; cases i.row.data nn w <;> rfl)
  next hread =>
  split
  next v m hv hm => exact .write (mem_of_lookup hv) (hdata.trans hm)
  next v hv hm => exact absurd hm (OpRow.data_ne_none (opTable_store i.opcode (hop hv)) nn w)
  next hstore =>
  split
  next f g m hf hm => exact .rmw (mem_of_lookup hf) (hdata.trans hm)
  next f g hf hm =>
    exact .acc (mem_of_lookup hf) (hdata.trans hm)
      ((opTable_rmw i.opcode (hop hf)).resolve_left fun hmem => OpRow.data_ne_none hmem nn w hm)
  next hrmw =>
  split
  next c hc => exact .branch (mem_of_lookup hc) nn
  next f hbranch hf =>
    have himp : i.row.mode = .imp := opTable_plain i.opcode (hop hf)
    have hm : dataMode i = none := hdata.trans (OpRow.data_eq_none (by rw [himp]; decide) nn w)
    rcases List.mem_append.1 (mem_of_lookup hf) with hreg | hstack
    · exact .register hreg hm
    · exact .stack hstack hm
  next hbranch hplain =>
    have hjump : op ∈ [0x20#8, 0x4C#8, 0x6C#8] := by
      refine (opTable_jumps op).resolve_left fun hmem => ?_
      rw [← hrow] at hmem
      simp only [List.mem_append] at hmem
      rcases hmem with (((h | h) | h) | h) | h
      · exact not_mem_of_lookup hread h
      · exact not_mem_of_lookup hstore h
      · exact not_mem_of_lookup hrmw h
      · exact not_mem_of_lookup hbranch h
      · exact not_mem_of_lookup hplain h
    simp only [List.mem_cons, List.not_mem_nil, or_false] at hjump
    rcases hjump with rfl | rfl | rfl
    · have hop : i.row.op = .jsr := congrArg OpRow.op hrow
      rw [if_pos hop]
      exact .jsr w hop
    · have hop : i.row.op = .jmp := congrArg OpRow.op hrow
      have hmode : i.row.mode = .abs := congrArg OpRow.mode hrow
      rw [if_neg (by rw [hop]; decide), if_neg (by rw [hmode]; decide)]
      exact .jump w hop (hdata.trans (by rw [hrow]; rfl))
    · have hop : i.row.op = .jmp := congrArg OpRow.op hrow
      have hmode : i.row.mode = .ind := congrArg OpRow.mode hrow
      rw [if_neg (by rw [hop]; decide), if_pos hmode]
      exact .jumpIndirect w hop hi

end Machine

end Sys2Proof
end

section
/-! The cycles of an instruction and what it leaves unchanged: registers, flags, memory (30_encoding.md R134 to R137, 10_state.md R20 to
R30, 20_memory.md R73, R82 to R87). -/

namespace Sys2Proof.Machine

open Sys2Proof.Vocab

/-! Cycles -/

theorem readOps_mem {o : Op} {f : Byte → State → State} (h : (o, f) ∈ readOps) : o ∈ readOps.map Prod.fst := List.mem_map_of_mem h

theorem branchOf_other {o : Op} (h : o ∉ branchOps.map Prod.fst) (p : Byte) : branchOf o p = false := by
  unfold branchOf
  split <;> simp_all [branchOps]

theorem branchOps_eq {o : Op} {c : State → Bool} (h : (o, c) ∈ branchOps) (s : State) : c s = branchOf o s.p := by
  obtain ⟨hC, hZ, -, hV, hN⟩ := hasFlag_eq_getLsbD s.p
  have all : ∀ d ∈ branchOps, d.2 s = branchOf d.1 s.p := by
    simp only [branchOps, List.forall_mem_cons, hC, hZ, hV, hN]
    exact ⟨rfl, rfl, rfl, rfl, rfl, rfl, rfl, rfl, List.forall_mem_nil _⟩
  exact all (o, c) h

/-- Whether an instruction's indexed address left its page. -/
def crossed (i : Instr) (s : State) : Bool :=
  match dataMode i with
  | some m => pageCrossed m s
  | none => false

theorem crossPenalty_of_dataMode {i : Instr} {o : Source} (ho : o.addr = dataMode i) (marked : Bool) (s : State) :
    crossPenalty marked o s = if marked && crossed i s then 1 else 0 := by
  rw [crossed, ← ho]
  cases o with
  | imm v => simp [crossPenalty, Source.addr]
  | mem m => rfl

/-- Only read-class rows are marked. -/
theorem penalty_other {i : Instr} (h : i.op ∉ readOps.map Prod.fst) : i.row.penalty = false :=
  Bool.eq_false_iff.2 fun hp => h (opTable_penalty i.opcode hp)

/-- An instruction that neither branches nor is marked takes its base cycles. -/
theorem cycles_plain {i : Instr} (h : i.op ∉ readOps.map Prod.fst ∧ i.op ∉ branchOps.map Prod.fst) (s u : State) :
    (retire i.row.base u).idle + 1 = i.row.base + (if i.row.penalty && crossed i s then 1 else 0) +
      (if branchOf i.op s.p then (if page (retire i.row.base u).pc = page s.pc then 1 else 2) else 0) := by
  have hbase : 1 ≤ i.row.base := opTable_base_pos i.opcode
  rw [penalty_other h.1, branchOf_other h.2, retire_idle]
  simp
  omega

theorem cycles_of_mem {β : Type} {l : List (Op × β)} (hl : ∀ o ∈ l.map Prod.fst, o ∉ readOps.map Prod.fst ∧ o ∉ branchOps.map Prod.fst)
    {i : Instr} {b : β} (h : (i.op, b) ∈ l) (s u : State) :
    (retire i.row.base u).idle + 1 = i.row.base + (if i.row.penalty && crossed i s then 1 else 0) +
      (if branchOf i.op s.p then (if page (retire i.row.base u).pc = page s.pc then 1 else 2) else 0) :=
  cycles_plain (hl _ (List.mem_map_of_mem h)) s u

/-- Settles O7: the class retires the row's base, with the page-cross cycle of a read and the branch's own two cases on top. -/
theorem cyclesAreTheTablesPlusPenalties : Obligations.CyclesAreTheTablesPlusPenalties := by
  intro i s t h
  show t.idle + 1 = i.row.base + (if i.row.penalty && crossed i s then 1 else 0) +
    (if branchOf i.op s.p then (if page t.pc = page s.pc then 1 else 2) else 0)
  have hbase : 1 ≤ i.row.base := opTable_base_pos i.opcode
  have jump : Op.jmp ∉ readOps.map Prod.fst ∧ Op.jmp ∉ branchOps.map Prod.fst := by decide
  have call : Op.jsr ∉ readOps.map Prod.fst ∧ Op.jsr ∉ branchOps.map Prod.fst := by decide
  cases exec_runs h with
  | read hf o ho =>
    have hbranch : ∀ o ∈ readOps.map Prod.fst, o ∉ branchOps.map Prod.fst := by decide
    rw [branchOf_other (hbranch _ (readOps_mem hf)), readClass, retire_idle, crossPenalty_of_dataMode ho]
    simp
    omega
  | write hv hm => exact cycles_of_mem (by decide) hv s _
  | rmw hf hm => exact cycles_of_mem (by decide) hf s _
  | acc hf hm hacc => exact cycles_of_mem (by decide) hf s _
  | branch hc d =>
    have hread : ∀ o ∈ branchOps.map Prod.fst, o ∉ readOps.map Prod.fst := by decide
    have hbase2 : i.row.base = 2 := (opTable_branch i.opcode (List.mem_map_of_mem hc)).1
    rw [penalty_other (hread _ (List.mem_map_of_mem hc)), hbase2, branch, branchOps_eq hc s]
    by_cases htaken : branchOf i.op s.p = true
    · by_cases hpage : page (branchTarget d s) = page s.pc <;> simp [htaken, hpage]
    · simp [htaken]
  | register hf hm => exact cycles_of_mem (by decide) hf s _
  | stack hf hm => exact cycles_of_mem (by decide) hf s _
  | jump w hop hm => exact cycles_plain (hop ▸ jump) s _
  | jumpIndirect w hop hi => exact cycles_plain (hop ▸ jump) s _
  | jsr w hop => exact cycles_plain (hop ▸ call) s _

/-! Registers -/

/-- What no instruction writes. -/
def outside (s : State) : BitVec 64 × Bool × Bool × Config × HostPort × List Byte :=
  (s.cycles, s.irqPending, s.nmiPending, s.cfg, s.host, s.cur)

/-- The registers that an instruction writes only where it is one of their writers, and what none writes. -/
def cpuView (s : State) : Byte × Byte × Byte × Byte × Addr × BitVec 64 × Bool × Bool × Config × HostPort × List Byte :=
  (s.a, s.x, s.y, s.s, s.pc, outside s)

/-- Each register kept unless the instruction is one of its writers, and what no instruction writes kept. -/
def KeepsRegisters (i : Instr) (s t : State) : Prop :=
  (i.op ∉ writersA → ¬(i.op ∈ shifts ∧ i.mode = .acc) → t.a = s.a) ∧ (i.op ∉ writersX → t.x = s.x) ∧ (i.op ∉ writersY → t.y = s.y) ∧
  (i.op ∉ writersS → t.s = s.s) ∧ (i.op ∉ writersPc → t.pc = s.pc) ∧ outside t = outside s

theorem KeepsRegisters.trans {i : Instr} {s t u : State} (h : KeepsRegisters i s t) (h' : KeepsRegisters i t u) : KeepsRegisters i s u := by
  obtain ⟨ha, hx, hy, hs, hpc, hout⟩ := h
  obtain ⟨ha', hx', hy', hs', hpc', hout'⟩ := h'
  exact ⟨fun hw hacc => (ha' hw hacc).trans (ha hw hacc), fun hw => (hx' hw).trans (hx hw), fun hw => (hy' hw).trans (hy hw),
    fun hw => (hs' hw).trans (hs hw), fun hw => (hpc' hw).trans (hpc hw), hout'.trans hout⟩

theorem KeepsRegisters.of_cpuView {i : Instr} {s t : State} (h : cpuView t = cpuView s) : KeepsRegisters i s t := by
  simp only [cpuView, Prod.mk.injEq] at h
  obtain ⟨ha, hx, hy, hs, hpc, hout⟩ := h
  exact ⟨fun _ _ => ha, fun _ => hx, fun _ => hy, fun _ => hs, fun _ => hpc, hout⟩

theorem memRead_cpuView (a : Addr) (s : State) : cpuView (memRead a s).2 = cpuView s := (congrArg cpuView (memRead_state a s) :)

theorem memWrite_cpuView (a : Addr) (v : Byte) (s : State) : cpuView (memWrite a v s) = cpuView s :=
  (congrArg cpuView (memWrite_state a v s) :)

theorem readSource_cpuView (o : Source) (s : State) : cpuView (readSource o s).2 = cpuView s := (congrArg cpuView (readSource_state o s) :)

/-- An operation that changes a state at most as its op's place in the writer lists allows. -/
def writesAsListed (o : Op) (s t : State) : Prop :=
  t = { s with
    a := if o ∈ writersA then t.a else s.a, x := if o ∈ writersX then t.x else s.x, y := if o ∈ writersY then t.y else s.y,
    s := if o ∈ writersS then t.s else s.s, pc := if o ∈ writersPc then t.pc else s.pc, p := t.p, ram := t.ram, idle := t.idle }

theorem writesAsListed.retire {o : Op} {s t : State} (h : writesAsListed o s t) (n : Nat) : writesAsListed o s (retire n t) :=
  (congrArg (Machine.retire n) h :)

theorem KeepsRegisters.of_writesAsListed {i : Instr} {s t : State} (h : writesAsListed i.op s t) : KeepsRegisters i s t :=
  ⟨fun hw _ => (congrArg State.a h).trans (if_neg hw), fun hw => (congrArg State.x h).trans (if_neg hw),
    fun hw => (congrArg State.y h).trans (if_neg hw), fun hw => (congrArg State.s h).trans (if_neg hw),
    fun hw => (congrArg State.pc h).trans (if_neg hw), (congrArg outside h :)⟩

theorem readOps_writes {o : Op} {f : Byte → State → State} (h : (o, f) ∈ readOps) (m : Byte) (s : State) : writesAsListed o s (f m s) := by
  have all : ∀ c ∈ readOps, writesAsListed c.1 s (c.2 m s) := by
    simp only [readOps, List.forall_mem_cons]
    exact ⟨rfl, rfl, rfl, rfl, rfl, rfl, rfl, rfl, rfl, rfl, rfl, rfl, rfl, List.forall_mem_nil _⟩
  exact all (o, f) h

theorem rmwOps_writes {o : Op} {f : Byte → State → Byte} {g : Byte → Byte → State → State} (h : (o, f, g) ∈ rmwOps) (m r : Byte)
    (s : State) : writesAsListed o s (g m r s) := by
  have all : ∀ c ∈ rmwOps, writesAsListed c.1 s (c.2.2 m r s) := by
    simp only [rmwOps, List.forall_mem_cons]
    exact ⟨rfl, rfl, rfl, rfl, rfl, rfl, rfl, rfl, rfl, rfl, rfl, rfl, List.forall_mem_nil _⟩
  exact all (o, f, g) h

theorem registerOps_writes {o : Op} {f : State → State} (h : (o, f) ∈ registerOps) (s : State) : writesAsListed o s (f s) := by
  have all : ∀ c ∈ registerOps, writesAsListed c.1 s (c.2 s) := by
    simp only [registerOps, List.forall_mem_cons]
    exact ⟨rfl, rfl, rfl, rfl, rfl, rfl, rfl, rfl, rfl, rfl, rfl, rfl, rfl, rfl, rfl, rfl, rfl, rfl, rfl, List.forall_mem_nil _⟩
  exact all (o, f) h

/-- BRK in one equation, with the vector's word left as it is. -/
theorem breakEntry_eq (s : State) : breakEntry s =
    { s with
      ram := ram3 s (hiByte (s.pc + 1#16)) (loByte (s.pc + 1#16)) (s.p ||| 0x30#8), s := s.s - 3#8, p := s.p ||| 0x04#8,
      pc := (breakEntry s).pc } :=
  takeException_eq (by decide) _ _ _

theorem stackOps_writes {o : Op} {f : State → State} (h : (o, f) ∈ stackOps) (s : State) : writesAsListed o s (f s) := by
  have all : ∀ c ∈ stackOps, writesAsListed c.1 s (c.2 s) := by
    simp only [stackOps, List.forall_mem_cons, pha, php, push_eq_ram1, pla_eq, plp_eq, rts_eq, returnFromException_eq]
    exact ⟨rfl, rfl, rfl, rfl, rfl, by rw [breakEntry_eq]; rfl, rfl, List.forall_mem_nil _⟩
  exact all (o, f) h

theorem jump_writes {o : Op} (h : o ∈ writersPc) (w : Addr) (s : State) : writesAsListed o s (jump w s) := by
  unfold writesAsListed
  simp only [h, if_true, ite_self, jump]

theorem branch_writes {o : Op} {c : State → Bool} (h : (o, c) ∈ branchOps) (d : Byte) (s : State) :
    writesAsListed o s (branch (c s) d s) := by
  have hpc : ∀ o ∈ branchOps.map Prod.fst, o ∈ writersPc := by decide
  unfold branch
  split
  · exact (jump_writes (hpc o (List.mem_map_of_mem h)) _ s).retire _
  · exact writesAsListed.retire (by simp [writesAsListed]) 2

theorem jsr_writes {o : Op} (h : o = .jsr) (w : Addr) (s : State) : writesAsListed o s (jsr w s) := by
  subst h
  rw [jsr_eq]
  rfl

/-- Settles O29: a class's bus accesses leave the registers, and its operation writes those that its place in the lists allows. -/
theorem instructionsLeaveTheOtherRegisters : Obligations.InstructionsLeaveTheOtherRegisters := by
  intro i s t h
  have hjmp : Op.jmp ∈ writersPc := by decide
  have keeps : KeepsRegisters i s t := by
    cases exec_runs h with
    | read hf o ho =>
      exact (KeepsRegisters.of_cpuView (readSource_cpuView o s)).trans (.of_writesAsListed ((readOps_writes hf _ _).retire _))
    | write hv hm => exact .of_cpuView (memWrite_cpuView ..)
    | rmw hf hm =>
      exact (KeepsRegisters.of_cpuView ((memWrite_cpuView ..).trans (memRead_cpuView ..))).trans
        (.of_writesAsListed ((rmwOps_writes hf _ _ _).retire _))
    | acc hf hm hacc =>
      have toA (v : Byte) : KeepsRegisters i s { s with a := v } :=
        ⟨fun _ hno => absurd ⟨hacc.2, hacc.1⟩ hno, fun _ => rfl, fun _ => rfl, fun _ => rfl, fun _ => rfl, rfl⟩
      exact (toA _).trans (.of_writesAsListed ((rmwOps_writes hf _ _ _).retire _))
    | branch hc d => exact .of_writesAsListed (branch_writes hc d s)
    | register hf hm => exact .of_writesAsListed ((registerOps_writes hf s).retire _)
    | stack hf hm => exact .of_writesAsListed ((stackOps_writes hf s).retire _)
    | jump w hop hm => exact .of_writesAsListed ((jump_writes (hop ▸ hjmp) w s).retire _)
    | jumpIndirect w hop hi =>
      exact (KeepsRegisters.of_cpuView ((memRead_cpuView ..).trans (memRead_cpuView ..))).trans
        (.of_writesAsListed ((jump_writes (hop ▸ hjmp) _ _).retire _))
    | jsr w hop => exact .of_writesAsListed ((jsr_writes hop w s).retire _)
  obtain ⟨ha, hx, hy, hs, hpc, hout⟩ := keeps
  simp only [outside, Prod.mk.injEq] at hout
  obtain ⟨hcycles, hirq, hnmi, hcfg, hhost, hcur⟩ := hout
  exact ⟨ha, hx, hy, hs, hpc, hcycles, hirq, hnmi, hcfg, hhost, hcur⟩

end Sys2Proof.Machine
end

section
/-! The flags that an instruction leaves (10_state.md R24 to R30). -/

namespace Sys2Proof.Machine

open Sys2Proof.Vocab

/-- Every flag kept of which an operation is no writer, and bits 5 and 4 kept where they are well formed. -/
def KeepsFlags (o : Op) (p q : Byte) : Prop :=
  (∀ f ∈ flagWriters, o ∉ f.2 → q &&& f.1 = p &&& f.1) ∧ (p &&& 0x30#8 = 0x20#8 → q &&& 0x30#8 = 0x20#8)

theorem KeepsFlags.rfl {o : Op} {p : Byte} : KeepsFlags o p p := ⟨fun _ _ _ => Eq.refl _, id⟩

theorem KeepsFlags.trans {o : Op} {p q r : Byte} (h : KeepsFlags o p q) (h' : KeepsFlags o q r) : KeepsFlags o p r :=
  ⟨fun f hf ho => (h'.1 f hf ho).trans (h.1 f hf ho), fun hp => h'.2 (h.2 hp)⟩

/-- An operation is a writer of every flag that a mask meets, and the mask leaves bits 5 and 4. -/
def listedFor (o : Op) (mask : Byte) : Bool :=
  (flagWriters.all fun f => decide (o ∈ f.2) || mask &&& f.1 == 0#8) && mask &&& 0x30#8 == 0#8

/-- Writing a flag that the operation is listed for. -/
theorem KeepsFlags.putFlag {o : Op} {p q : Byte} {f : Byte} (h : KeepsFlags o p q) (hf : listedFor o f = true) (b : Bool) :
    KeepsFlags o p (putFlag f b q) := by
  simp only [listedFor, Bool.and_eq_true, List.all_eq_true, Bool.or_eq_true, decide_eq_true_eq, beq_iff_eq] at hf
  obtain ⟨hlisted, hfixed⟩ := hf
  refine h.trans ⟨fun g hg ho => putFlag_and_other ((hlisted g hg).resolve_left ho) b q, fun hq => ?_⟩
  rw [putFlag_and_other hfixed, hq]

theorem KeepsFlags.setZN {o : Op} {p : Byte} {s : State} (h : KeepsFlags o p s.p) (hZ : listedFor o flagZ = true)
    (hN : listedFor o flagN = true) (v : Byte) : KeepsFlags o p (setZN v s).p :=
  (h.putFlag hZ _).putFlag hN _

theorem KeepsFlags.addWithCarry {o : Op} {p : Byte} {s : State} (h : KeepsFlags o p s.p)
    (hall : (listedFor o flagC && listedFor o flagV && listedFor o flagZ && listedFor o flagN) = true) (m : Byte) (c : Nat) :
    KeepsFlags o p (addWithCarry m c s).p := by
  simp only [Bool.and_eq_true] at hall
  obtain ⟨⟨⟨hC, hV⟩, hZ⟩, hN⟩ := hall
  exact (((h.putFlag hC _).putFlag hV _).putFlag hZ _).putFlag hN _

theorem KeepsFlags.compare {o : Op} {p : Byte} {s : State} (h : KeepsFlags o p s.p)
    (hall : (listedFor o flagC && listedFor o flagZ && listedFor o flagN) = true) (r m : Byte) :
    KeepsFlags o p (compare r m s).p := by
  simp only [Bool.and_eq_true] at hall
  obtain ⟨⟨hC, hZ⟩, hN⟩ := hall
  exact ((h.putFlag hC _).putFlag hZ _).putFlag hN _

/-- An operation that writes every flag may load P from a pulled byte. -/
theorem KeepsFlags.pulledStatus {o : Op} (h : (flagWriters.all fun f => decide (o ∈ f.2)) = true) (p m : Byte) :
    KeepsFlags o p (pulledStatus m) := by
  refine ⟨fun f hf ho => absurd ?_ ho, fun _ => (statusOk_iff _).1 (statusOk_pulledStatus m)⟩
  simpa using List.all_eq_true.1 h f hf

theorem readOps_flags {o : Op} {f : Byte → State → State} (h : (o, f) ∈ readOps) (m : Byte) (s : State) : KeepsFlags o s.p (f m s).p := by
  have all : ∀ c ∈ readOps, KeepsFlags c.1 s.p (c.2 m s).p := by
    simp only [readOps, List.forall_mem_cons]
    exact ⟨.setZN .rfl rfl rfl m, .setZN .rfl rfl rfl m, .setZN .rfl rfl rfl m, .setZN .rfl rfl rfl m, .addWithCarry .rfl rfl m _,
      .addWithCarry .rfl rfl _ _, .setZN .rfl rfl rfl _, .setZN .rfl rfl rfl _, .setZN .rfl rfl rfl _, .compare .rfl rfl _ m,
      .compare .rfl rfl _ m, .compare .rfl rfl _ m, ((KeepsFlags.rfl.putFlag rfl _).putFlag rfl _).putFlag rfl _, List.forall_mem_nil _⟩
  exact all (o, f) h

theorem rmwOps_flags {o : Op} {f : Byte → State → Byte} {g : Byte → Byte → State → State} (h : (o, f, g) ∈ rmwOps) (m r : Byte)
    (s : State) : KeepsFlags o s.p (g m r s).p := by
  have all : ∀ c ∈ rmwOps, KeepsFlags c.1 s.p (c.2.2 m r s).p := by
    simp only [rmwOps, List.forall_mem_cons]
    exact ⟨.setZN .rfl rfl rfl r, .setZN .rfl rfl rfl r, .setZN (.putFlag .rfl rfl _) rfl rfl r, .setZN (.putFlag .rfl rfl _) rfl rfl r,
      .setZN (.putFlag .rfl rfl _) rfl rfl r, .setZN (.putFlag .rfl rfl _) rfl rfl r, .setZN (.putFlag .rfl rfl _) rfl rfl _,
      .addWithCarry .rfl rfl _ _, .setZN (.putFlag .rfl rfl _) rfl rfl _, .setZN (.putFlag .rfl rfl _) rfl rfl _,
      .setZN (.putFlag .rfl rfl _) rfl rfl _, .addWithCarry .rfl rfl _ _, List.forall_mem_nil _⟩
  exact all (o, f, g) h

theorem registerOps_flags {o : Op} {f : State → State} (h : (o, f) ∈ registerOps) (s : State) : KeepsFlags o s.p (f s).p := by
  have all : ∀ c ∈ registerOps, KeepsFlags c.1 s.p (c.2 s).p := by
    simp only [registerOps, List.forall_mem_cons]
    exact ⟨.setZN .rfl rfl rfl _, .setZN .rfl rfl rfl _, .setZN .rfl rfl rfl _, .setZN .rfl rfl rfl _, .setZN .rfl rfl rfl _, .rfl,
      .setZN .rfl rfl rfl _, .setZN .rfl rfl rfl _, .setZN .rfl rfl rfl _, .setZN .rfl rfl rfl _, .putFlag .rfl rfl _, .putFlag .rfl rfl _,
      .putFlag .rfl rfl _, .putFlag .rfl rfl _, .putFlag .rfl rfl _, .putFlag .rfl rfl _, .putFlag .rfl rfl _, .rfl, .rfl,
      List.forall_mem_nil _⟩
  exact all (o, f) h

theorem stackOps_flags {o : Op} {f : State → State} (h : (o, f) ∈ stackOps) (s : State) : KeepsFlags o s.p (f s).p := by
  have all : ∀ c ∈ stackOps, KeepsFlags c.1 s.p (c.2 s).p := by
    simp only [stackOps, List.forall_mem_cons, pha, php, push_eq_ram1, plp_eq, rts_eq, returnFromException_eq]
    refine ⟨.rfl, .rfl, ?_, .pulledStatus rfl _ _, .rfl, ?_, .pulledStatus rfl _ _, List.forall_mem_nil _⟩
    · rw [pla, pull_eq_stacked]
      exact .setZN .rfl rfl rfl _
    · rw [breakEntry_eq]
      exact .putFlag .rfl rfl true
  exact all (o, f) h

/-- Settles O30: a class's bus accesses leave P, and its operation writes flags that it is listed for. -/
theorem instructionsLeaveTheOtherFlags : Obligations.InstructionsLeaveTheOtherFlags := by
  intro i s t h
  show KeepsFlags i.op s.p t.p
  cases exec_runs h with
  | read hf o ho =>
    have keeps := readOps_flags hf (readSource o s).1 (readSource o s).2
    rwa [readSource_p] at keeps
  | write hv hm => simpa [writeClass] using KeepsFlags.rfl
  | @rmw f g hf m hm =>
    have keeps := fun v r => rmwOps_flags hf v r (memWrite (effAddr m s) r (memRead (effAddr m s) s).2)
    simp only [memWrite_p, memRead_p] at keeps
    exact keeps _ _
  | acc hf hm hacc => exact rmwOps_flags hf s.a _ { s with a := _ }
  | branch hc d =>
    unfold branch
    split <;> exact .rfl
  | register hf hm => exact registerOps_flags hf s
  | stack hf hm => exact stackOps_flags hf s
  | jump w hop hm => exact .rfl
  | jumpIndirect w hop hi => simpa [jumpIndirect, indirectTarget] using KeepsFlags.rfl
  | jsr w hop => rw [jsr_eq]; exact .rfl

end Sys2Proof.Machine
end

section
/-! What the bus keeps of the PPU, and what one step keeps: the configuration, the counters, the invariant (10_state.md R36 to R63,
50_bus_devices.md R300). -/

namespace Sys2Proof.Machine

open Sys2Proof.Vocab

/-! The PPU after a bus access -/

/-- A register read moves `v`, the read buffer, vblank and the write latch at most. -/
theorem ppuRegRead_ppu (i : Nat) (s : State) :
    (ppuRegRead i s).2.ppu =
      { s.ppu with
        vblank := (ppuRegRead i s).2.ppu.vblank, w := (ppuRegRead i s).2.ppu.w, v := (ppuRegRead i s).2.ppu.v,
        readbuf := (ppuRegRead i s).2.ppu.readbuf } := by
  unfold ppuRegRead
  split
  · rfl
  · rfl
  · unfold dataRead
    dsimp only
    split <;> rfl
  · rfl

/-- A write on the PPU's bus reaches its memories alone. -/
theorem ppuWrite_ppu (a : Addr) (v : Byte) (s : State) :
    (ppuWrite a v s).ppu =
      { s.ppu with
        palette := (ppuWrite a v s).ppu.palette, nt := (ppuWrite a v s).ppu.nt, ntExt := (ppuWrite a v s).ppu.ntExt } := by
  unfold ppuWrite
  dsimp only
  split
  · unfold mapperPpuWrite
    split <;> rfl
  · split
    · unfold ntWrite
      dsimp only
      split <;> rfl
    · rfl

/-- A register write leaves the position, the flags of PPUSTATUS, the sprites in the buffers and the frame. -/
theorem ppuRegWrite_ppu (i : Nat) (d : Byte) (s : State) :
    (ppuRegWrite i d s).ppu =
      let p := (ppuRegWrite i d s).ppu
      { s.ppu with
        ctrl := p.ctrl, mask := p.mask, oamaddr := p.oamaddr, v := p.v, t := p.t, x := p.x, w := p.w, oam := p.oam,
        palette := p.palette, nt := p.nt, ntExt := p.ntExt } := by
  unfold ppuRegWrite
  split
  · rfl
  · rfl
  · rfl
  · rfl
  · unfold scrollWrite
    split <;> rfl
  · unfold addrWrite
    dsimp only
    split <;> rfl
  · simp only [dataWrite, vramInc]
    rw [ppuWrite_ppu]
  · rfl

theorem padRead_ppu (s : State) : (padRead s).2.ppu = s.ppu := by rw [padRead_state]
theorem padWrite_ppu (v : Byte) (s : State) : (padWrite v s).ppu = s.ppu := by rw [padWrite_state]
theorem mapperCpuWrite_ppu (a : Addr) (v : Byte) (s : State) : (mapperCpuWrite a v s).ppu = s.ppu := by rw [mapperCpuWrite_state]

/-- A bus read's trace on the PPU. -/
theorem memRead_ppu (a : Addr) (s : State) :
    (memRead a s).2.ppu =
      { s.ppu with
        vblank := (memRead a s).2.ppu.vblank, w := (memRead a s).2.ppu.w, v := (memRead a s).2.ppu.v,
        readbuf := (memRead a s).2.ppu.readbuf } := by
  unfold memRead
  split
  · rfl
  split
  · exact ppuRegRead_ppu ..
  split
  · rfl
  split
  · rw [padRead_ppu]
  · (repeat' split) <;> rfl

/-- A bus write's. -/
theorem memWrite_ppu (a : Addr) (v : Byte) (s : State) :
    (memWrite a v s).ppu =
      let p := (memWrite a v s).ppu
      { s.ppu with
        ctrl := p.ctrl, mask := p.mask, oamaddr := p.oamaddr, v := p.v, t := p.t, x := p.x, w := p.w, oam := p.oam,
        palette := p.palette, nt := p.nt, ntExt := p.ntExt } := by
  unfold memWrite
  split
  · rfl
  split
  · exact ppuRegWrite_ppu ..
  split
  · rfl
  split
  · rw [padWrite_ppu]
  split
  · rfl
  split
  · rfl
  · rw [mapperCpuWrite_ppu]

/-! What is kept through an instruction and through a CPU slot -/

section
variable {P : State → Prop}

/-- A fetch is bus reads, and changes of PC and of the instruction record. -/
theorem fetchInstr_keeps (hread : ∀ (a : Addr) (s : State), P s → P (memRead a s).2)
    (hown : ∀ (s : State) (pc : Addr) (cur : List Byte), P s → P { s with pc := pc, cur := cur }) {s : State} (h : P s) :
    P (fetchInstr s).2 := by
  have fetch : ∀ {u : State}, P u → P (fetch8 u).2 := fun {u} hu => hown (memRead u.pc u).2 _ (memRead u.pc u).2.cur (hread _ _ hu)
  unfold fetchInstr
  dsimp only
  split
  · exact hown _ (fetch8 s).2.pc _ (fetch h)
  · exact hown _ (fetch8 (fetch8 s).2).2.pc _ (fetch (fetch h))
  · exact hown _ (fetch8 (fetch8 (fetch8 s).2).2).2.pc _ (fetch (fetch (fetch h)))

/-- An instruction is bus reads, bus writes, and changes of the CPU's registers, of the cycles owed and of RAM. -/
theorem exec_keeps (hread : ∀ (a : Addr) (s : State), P s → P (memRead a s).2)
    (hwrite : ∀ (a : Addr) (v : Byte) (s : State), P s → P (memWrite a v s))
    (hown : ∀ (s : State) (a x y sp p : Byte) (pc : Addr) (idle : Nat) (ram : Memory 8), P s →
      P { s with a := a, x := x, y := y, s := sp, p := p, pc := pc, idle := idle, ram := ram })
    {i : Instr} {s t : State} (h : P s) (ht : exec i s = .next t) : P t := by
  have listed {u v : State} (hu : P u) (hw : writesAsListed i.op u v) : P v := hw ▸ hown u _ _ _ _ _ _ _ _ hu
  have owed {u : State} (hu : P u) (n : Nat) : P (retire n u) := hown u u.a u.x u.y u.s u.p u.pc _ u.ram hu
  have hjmp : Op.jmp ∈ writersPc := by decide
  cases exec_runs ht with
  | read hf o ho =>
    cases o with
    | imm v => exact listed h ((readOps_writes hf _ _).retire _)
    | mem m => exact listed (hread _ _ h) ((readOps_writes hf _ _).retire _)
  | write hv hm => exact owed (hwrite _ _ _ h) _
  | rmw hf hm => exact listed (hwrite _ _ _ (hread _ _ h)) ((rmwOps_writes hf _ _ _).retire _)
  | acc hf hm hacc =>
    exact listed (hown s _ s.x s.y s.s s.p s.pc s.idle s.ram h) ((rmwOps_writes hf _ _ _).retire _)
  | branch hc d => exact listed h (branch_writes hc d s)
  | register hf hm => exact listed h ((registerOps_writes hf s).retire _)
  | stack hf hm => exact listed h ((stackOps_writes hf s).retire _)
  | jump w hop hm => exact listed h ((jump_writes (hop ▸ hjmp) w s).retire _)
  | jumpIndirect w hop hi => exact listed (hread _ _ (hread _ _ h)) ((jump_writes (hop ▸ hjmp) _ _).retire _)
  | jsr w hop => exact listed h ((jsr_writes hop w s).retire _)

/-- What a CPU slot can be: a DMA cycle, a cycle owed, an interrupt entry, or the instruction at PC. -/
theorem cpuSlot_cases {s t : State} (h : cpuSlot s = .next t) (hdma : P (dmaCycle s)) (howed : P { s with idle := s.idle - 1 })
    (hnmi : P (takeNmi s)) (hirq : P (takeIrq s)) (hexec : exec (fetchInstr s).1 (fetchInstr s).2 = .next t → P t) : P t := by
  unfold cpuSlot cpuCycle executeInstruction at h
  split at h
  · exact Host.Outcome.next.inj h ▸ hdma
  split at h
  · exact Host.Outcome.next.inj h ▸ howed
  split at h
  · exact Host.Outcome.next.inj h ▸ hnmi
  split at h
  · exact Host.Outcome.next.inj h ▸ hirq
  · exact hexec h

end

/-- A step is the host's turn, a CPU slot, the three dots and the cycle counter. -/
theorem step_eq {s t : State} (h : step s = .next t) : ∃ u, cpuSlot (hostTurn s) = .next u ∧ t = finishTick u := by
  obtain ⟨u, hu, hstep⟩ := tick_answers (hostTurn s)
  exact ⟨u, hu, Host.Outcome.next.inj (h.symm.trans hstep)⟩

/-! The configuration and the counters -/

/-- The configuration, the cycle counter and the position in the frame, which a CPU slot keeps. -/
def clock (s : State) : Config × BitVec 64 × Nat × Nat := (s.cfg, s.cycles, s.ppu.scanline, s.ppu.dot)

theorem memRead_clock (a : Addr) (s : State) : clock (memRead a s).2 = clock s := by
  simp only [clock, memRead_cfg, memRead_cycles]
  rw [memRead_ppu]

theorem memWrite_clock (a : Addr) (v : Byte) (s : State) : clock (memWrite a v s) = clock s := by
  simp only [clock, memWrite_cfg, memWrite_cycles]
  rw [memWrite_ppu]

theorem dmaCycle_clock (s : State) : clock (dmaCycle s) = clock s := by
  unfold dmaCycle
  split
  · rfl
  split
  · exact memRead_clock _ s
  · rfl

theorem interruptEntry_clock {vec : Addr} (hvec : 0x6000#16 ≤ vec) (hend : vec ≠ 0xFFFF#16) (s : State) :
    clock (interruptEntry vec s) = clock s := (congrArg clock (interruptEntry_eq hvec hend s) :)

theorem cpuSlot_clock {s t : State} (h : cpuSlot s = .next t) : clock t = clock s := by
  have read (a : Addr) (u : State) (hu : clock u = clock s) : clock (memRead a u).2 = clock s := (memRead_clock a u).trans hu
  have fetched : clock (fetchInstr s).2 = clock s := fetchInstr_keeps (P := fun u => clock u = clock s) read (fun _ _ _ hu => hu) rfl
  refine cpuSlot_cases (P := fun u => clock u = clock s) h (dmaCycle_clock s) rfl (interruptEntry_clock (by decide) (by decide) _)
    (interruptEntry_clock (by decide) (by decide) _) fun he => ?_
  exact exec_keeps (P := fun u => clock u = clock s) read (fun a v u hu => (memWrite_clock a v u).trans hu)
    (fun _ _ _ _ _ _ _ _ _ hu => hu) fetched he

theorem read16_cfg (a : Addr) (s : State) : (read16 a s).2.cfg = s.cfg := by simp [read16]

theorem warmReset_cfg (s : State) : (warmReset s).cfg = s.cfg := read16_cfg resetVector (resetRegisters s)

theorem hostOp_cfg (o : HostOp) (s : State) : (hostOp o s).cfg = s.cfg := by
  cases o with
  | reset => exact warmReset_cfg s
  | setButtons | pullIrq | pullNmi | grabFrameDone => rfl

theorem hostOps_cfg (ops : List HostOp) (s : State) : (hostOps ops s).cfg = s.cfg := by
  induction ops generalizing s with
  | nil => rfl
  | cons o ops ih => exact (ih _).trans (hostOp_cfg o s)

theorem hostTurn_cfg (s : State) : (hostTurn s).cfg = s.cfg := by
  unfold hostTurn
  split
  · rfl
  · exact hostOps_cfg ..

/-- Settles O8: the host's operations, the CPU slot and the dots each keep the configuration. -/
theorem noStepChangesTheConfiguration : Obligations.NoStepChangesTheConfiguration := by
  intro s t h
  obtain ⟨u, hu, rfl⟩ := step_eq h
  have slot : u.cfg = (hostTurn s).cfg := congrArg Prod.fst (cpuSlot_clock hu)
  rw [finishTick_cfg, slot, hostTurn_cfg]

/-- The three dots of a tick move the position on by three. -/
theorem finishTick_position {s : State} (h : positionOk s.ppu) : framePosition (finishTick s).ppu = (framePosition s.ppu + 3) % 89342 := by
  obtain ⟨next1, ok1, -⟩ := dotAdvancesTheFrame s h
  obtain ⟨next2, ok2, -⟩ := dotAdvancesTheFrame _ ok1
  obtain ⟨next3, -⟩ := dotAdvancesTheFrame _ ok2
  show framePosition (ppuDot (ppuDot (ppuDot s))).ppu = _
  omega

/-- Settles O9: a CPU slot keeps the cycle counter and the position, and the rest of the tick moves them on. -/
theorem stepCountsOneCycleAndThreeDots : Obligations.StepCountsOneCycleAndThreeDots := by
  intro s t hpos h
  obtain ⟨u, hu, rfl⟩ := step_eq h
  have slot := cpuSlot_clock hu
  simp only [clock, Prod.mk.injEq] at slot
  obtain ⟨-, hcycles, hline, hdot⟩ := slot
  have upos : positionOk u.ppu := by simpa only [positionOk, hline, hdot] using hpos
  refine ⟨by rw [finishTick_cycles, hcycles], ?_⟩
  rw [finishTick_position upos, framePosition, hline, hdot, framePosition]

/-! The invariant -/

/-- Settles O11: power-up is a reset of the launch's memories and configuration, which are well formed. -/
theorem powerUpMeetsTheInvariant : Obligations.PowerUpMeetsTheInvariant := by
  rintro l ⟨hcart, hcolours, hram, hwram⟩
  exact Inv.warmReset hram hwram (Memory.wf_nil _) hcart hcolours

/-- Settles O10: the state after reset is the power-up of the blank launch. -/
theorem resetMeetsTheInvariant : Obligations.ResetMeetsTheInvariant := by
  have blank : Launch.blank.wf := by decide
  have powered : Inv (powerUp Launch.blank) := powerUpMeetsTheInvariant _ blank
  rwa [Laws.reset_eq_powerUp] at powered

theorem Inv.fetchInstr {s : State} (h : Inv s) : Inv (fetchInstr s).2 :=
  fetchInstr_keeps (fun a _ hs => hs.memRead a) (fun _ _ _ hs => hs.ofCpu rfl hs.status hs.counters.1) h

theorem Inv.interruptEntry {s : State} (h : Inv s) (vec : Addr) : Inv (interruptEntry vec s) :=
  h.takeException vec _ fun _ hp => statusOk_putFlag (by decide) false hp

/-- A CPU slot keeps the invariant. -/
theorem Inv.cpuSlot {s t : State} (h : Inv s) (ht : cpuSlot s = .next t) : Inv t := by
  have latch (n i : Bool) : Inv { s with nmiPending := n, irqPending := i } := h.ofCpu rfl h.status h.counters.1
  have owed : s.idle - 1 ≤ 8 := (Nat.sub_le ..).trans h.counters.1
  exact cpuSlot_cases ht h.dmaCycle (h.ofCpu rfl h.status owed) (((latch false _).interruptEntry nmiVector).retire (by decide))
    (((latch _ false).interruptEntry irqVector).retire (by decide)) fun he => h.fetchInstr.exec he

/-- Settles O12: the host's turn, each kind of CPU slot, and the dots with the cycle counter keep the invariant. -/
theorem everyStepKeepsTheInvariant : Obligations.EveryStepKeepsTheInvariant := by
  intro s t h ht
  obtain ⟨u, hu, rfl⟩ := step_eq ht
  exact (h.hostTurn.cpuSlot hu).finishTick

end Sys2Proof.Machine
end

section
/-! The bus by region: which one part of the state an access can change (20_memory.md R70 to R73, R87). -/

namespace Sys2Proof.Machine

open Sys2Proof.Vocab

/-! The accesses of each region -/

theorem memRead_at_ppu {a : Addr} (h : 0x2000#16 ≤ a) (h' : a ≤ 0x3FFF#16) (s : State) : memRead a s = ppuRegRead (a.toNat % 8) s := by
  rw [memRead, if_neg (by bv_omega), if_pos h']

theorem memWrite_at_ppu {a : Addr} (h : 0x2000#16 ≤ a) (h' : a ≤ 0x3FFF#16) (v : Byte) (s : State) :
    memWrite a v s = ppuRegWrite (a.toNat % 8) v s := by
  rw [memWrite, if_neg (by bv_omega), if_pos h']

/-- The APU's addresses: $4000 to $4017 but the DMA port and the controller port. -/
def apuAddr (a : Addr) : Prop := 0x4000#16 ≤ a ∧ a ≤ 0x4017#16 ∧ a ≠ 0x4014#16 ∧ a ≠ 0x4016#16

theorem memWrite_at_apu {a : Addr} (h : apuAddr a) (v : Byte) (s : State) : memWrite a v s = apuWrite a v s := by
  obtain ⟨hlow, hhigh, hdma, hpad⟩ := h
  rw [memWrite, if_neg (by bv_omega), if_neg (by bv_omega), if_neg hdma, if_neg hpad, if_pos hhigh]

theorem memWrite_at_cartridge {a : Addr} (h : 0x4018#16 ≤ a) (v : Byte) (s : State) : memWrite a v s = mapperCpuWrite a v s := by
  rw [memWrite, if_neg (by bv_omega), if_neg (by bv_omega), if_neg (by bv_omega), if_neg (by bv_omega), if_neg (by bv_omega)]
  split
  · rw [mapperCpuWrite, if_pos (by bv_omega)]
  · rfl

theorem memWrite_at_unclaimed {a : Addr} (h : 0x4018#16 ≤ a) (h' : a < 0x6000#16) (v : Byte) (s : State) : memWrite a v s = s := by
  rw [memWrite_at_cartridge h, mapperCpuWrite, if_pos h']

theorem memWrite_at_wram {a : Addr} (h : 0x6000#16 ≤ a) (h' : a < 0x8000#16) (v : Byte) (s : State) :
    memWrite a v s = { s with wram := Memory.write s.wram (a.toNat - 0x6000) v } := by
  rw [memWrite_at_cartridge (by bv_omega), mapperCpuWrite, if_neg (by bv_omega), if_pos h']

theorem memWrite_at_rom {a : Addr} (h : 0x8000#16 ≤ a) (v : Byte) (s : State) : memWrite a v s = mapperCpuWrite a v s :=
  memWrite_at_cartridge (by bv_omega) v s

/-- A write to $8000 and above is the mapper's (R461, R471, R490). -/
theorem memWrite_at_nrom {s : State} (hs : s.mapper = .nrom) {a : Addr} (h : 0x8000#16 ≤ a) (v : Byte) : memWrite a v s = s := by
  rw [memWrite_at_rom h, mapperCpuWrite, if_neg (by bv_omega), if_neg (by bv_omega)]
  simp only [hs]

theorem memWrite_at_sxrom {s : State} {m : SxRegs} (hs : s.mapper = .sxrom m) {a : Addr} (h : 0x8000#16 ≤ a) (v : Byte) :
    memWrite a v s = sxWrite m a v s := by
  rw [memWrite_at_rom h, mapperCpuWrite, if_neg (by bv_omega), if_neg (by bv_omega)]
  simp only [hs]

theorem memWrite_at_txrom {s : State} {m : TxRegs} (hs : s.mapper = .txrom m) {a : Addr} (h : 0x8000#16 ≤ a) (v : Byte) :
    memWrite a v s = txWrite m a v s := by
  rw [memWrite_at_rom h, mapperCpuWrite, if_neg (by bv_omega), if_neg (by bv_omega)]
  simp only [hs]

theorem sxWrite_state (m : SxRegs) (a : Addr) (d : Byte) (s : State) :
    sxWrite m a d s = { s with mapper := (sxWrite m a d s).mapper, mirroring := (sxWrite m a d s).mirroring } := by
  simp only [sxWrite, sxLatch, setMirroring]
  (repeat' split) <;> rfl

theorem txWrite_state (m : TxRegs) (a : Addr) (d : Byte) (s : State) :
    txWrite m a d s = { s with mapper := (txWrite m a d s).mapper, mirroring := (txWrite m a d s).mirroring } := by
  simp only [txWrite, setMirroring]
  (repeat' split) <;> rfl

/-! One device -/

/-- What an access at `e` can leave: one device changed, the one that claims `e`. -/
inductive OneDevice (e : Addr) (s : State) : State → Prop where
  | ram (he : e < 0x2000#16) (m : Memory 8)
      (hm : ∀ k, k ≠ e.toNat % 2048 → Memory.read m k = Memory.read s.ram k) : OneDevice e s { s with ram := m }
  | ppu (he : 0x2000#16 ≤ e ∧ e < 0x4000#16) (p : Ppu) (c : Memory 8) : OneDevice e s { s with ppu := p, chrRam := c }
  | dma (he : e = 0x4014#16) (d : Dma) : OneDevice e s { s with dma := d }
  | pad (he : e = 0x4016#16) (d : Pad) : OneDevice e s { s with pad := d }
  | apu (he : 0x4000#16 ≤ e ∧ e < 0x4018#16) (m : Memory 8) : OneDevice e s { s with apu := m }
  | nothing : OneDevice e s s
  | wram (he : 0x6000#16 ≤ e ∧ e < 0x8000#16) (m : Memory 8)
      (hm : ∀ k, k ≠ e.toNat - 0x6000 → Memory.read m k = Memory.read s.wram k) : OneDevice e s { s with wram := m }
  | mapper (he : 0x8000#16 ≤ e) (hs : s.mapper ≠ .nrom) (m : Mapper) (mode : Mirroring) :
      OneDevice e s { s with mapper := m, mirroring := mode }

/-- A read changes the PPU or the controller, where it is theirs. -/
theorem memRead_oneDevice (e : Addr) (s : State) : OneDevice e s (memRead e s).2 := by
  by_cases hquiet : quiet e
  · rw [memRead_of_quiet hquiet]
    exact .nothing
  by_cases hpad : e = 0x4016#16
  · subst hpad
    have read : (memRead 0x4016#16 s).2 = (padRead s).2 := rfl
    rw [read, padRead_state]
    exact .pad rfl _
  · have he : 0x2000#16 ≤ e ∧ e < 0x4000#16 := by
      unfold quiet at hquiet
      constructor <;> bv_omega
    rw [memRead_at_ppu he.1 (by bv_omega), ppuRegRead_state]
    exact .ppu he _ _

/-- A write changes the device at its address. -/
theorem memWrite_oneDevice (e : Addr) (v : Byte) (s : State) : OneDevice e s (memWrite e v s) := by
  by_cases hram : e < 0x2000#16
  · rw [memWrite_at_ram (by bv_omega)]
    exact .ram hram _ fun k hk => Memory.read_write_other _ _ hk
  by_cases hppu : e < 0x4000#16
  · have he : 0x2000#16 ≤ e ∧ e < 0x4000#16 := ⟨by bv_omega, hppu⟩
    rw [memWrite_at_ppu he.1 (by bv_omega), ppuRegWrite_state]
    exact .ppu he _ _
  by_cases hdma : e = 0x4014#16
  · subst hdma
    exact .dma rfl _
  by_cases hpad : e = 0x4016#16
  · subst hpad
    have write : memWrite 0x4016#16 v s = padWrite v s := rfl
    rw [write, padWrite_state]
    exact .pad rfl _
  by_cases hapu : e < 0x4018#16
  · rw [memWrite_at_apu ⟨by bv_omega, by bv_omega, hdma, hpad⟩]
    exact .apu ⟨by bv_omega, hapu⟩ _
  by_cases hmiss : e < 0x6000#16
  · rw [memWrite_at_unclaimed (by bv_omega) hmiss]
    exact .nothing
  by_cases hwram : e < 0x8000#16
  · rw [memWrite_at_wram (by bv_omega) hwram]
    exact .wram ⟨by bv_omega, hwram⟩ _ fun k hk => Memory.read_write_other _ _ hk
  · have he : 0x8000#16 ≤ e := by bv_omega
    cases hm : s.mapper with
    | nrom =>
      rw [memWrite_at_nrom hm he]
      exact .nothing
    | sxrom m =>
      rw [memWrite_at_sxrom hm he, sxWrite_state]
      exact .mapper he (by simp [hm]) _ _
    | txrom m =>
      rw [memWrite_at_txrom hm he, txWrite_state]
      exact .mapper he (by simp [hm]) _ _

namespace OneDevice
variable {e : Addr} {s t : State}

theorem ram_eq (h : OneDevice e s t) (he : 0x2000#16 ≤ e) : t.ram = s.ram := by
  cases h with
  | ram he' => exact absurd he' (by bv_omega)
  | _ => rfl

theorem ppu_eq (h : OneDevice e s t) (he : e < 0x2000#16 ∨ 0x4000#16 ≤ e) : t.ppu = s.ppu ∧ t.chrRam = s.chrRam := by
  cases h with
  | ppu he' => exact absurd he' (by bv_omega)
  | _ => exact ⟨rfl, rfl⟩

theorem dma_eq (h : OneDevice e s t) (he : e ≠ 0x4014#16) : t.dma = s.dma := by
  cases h with
  | dma he' => exact absurd he' he
  | _ => rfl

theorem pad_eq (h : OneDevice e s t) (he : e ≠ 0x4016#16) : t.pad = s.pad := by
  cases h with
  | pad he' => exact absurd he' he
  | _ => rfl

theorem apu_eq (h : OneDevice e s t) (he : e < 0x4000#16 ∨ 0x4018#16 ≤ e) : t.apu = s.apu := by
  cases h with
  | apu he' => exact absurd he' (by bv_omega)
  | _ => rfl

theorem wram_eq (h : OneDevice e s t) (he : e < 0x6000#16 ∨ 0x8000#16 ≤ e) : t.wram = s.wram := by
  cases h with
  | wram he' => exact absurd he' (by bv_omega)
  | _ => rfl

theorem mapper_eq (h : OneDevice e s t) (he : e < 0x8000#16) : t.mapper = s.mapper ∧ t.mirroring = s.mirroring := by
  cases h with
  | mapper he' => exact absurd he' (by bv_omega)
  | _ => exact ⟨rfl, rfl⟩

/-- What an access does not touch reads as before. -/
theorem peek_eq (h : OneDevice e s t) {b : Addr} (hb : ¬ touched e b s) : peek b t = peek b s := by
  simp only [touched, not_or] at hb
  obtain ⟨hram, hppu, hpad, hwram, hmapper⟩ := hb
  have hcfg : t.cfg = s.cfg ∧ t.host = s.host := by cases h <;> exact ⟨rfl, rfl⟩
  refine peek_congr hcfg.1 hcfg.2 (fun hb => ?_) (fun hlow hhigh => ?_) (fun hb => ?_) (fun hlow hhigh => ?_) fun hb => ?_
  · cases h with
    | ram he m hm => exact hm _ fun heq => hram ⟨he, hb, heq⟩
    | _ => rfl
  · exact (h.ppu_eq (by by_contra he; exact hppu ⟨by bv_omega, by bv_omega, hlow, hhigh⟩)).1
  · exact h.pad_eq fun he => hpad ⟨he, hb⟩
  · cases h with
    | wram he m hm => exact hm _ fun heq => hwram ⟨he.1, he.2, by bv_omega⟩
    | _ => rfl
  · cases h with
    | mapper he hs => exact absurd ⟨he, hb, hs⟩ hmapper
    | _ => rfl

end OneDevice

end Sys2Proof.Machine
end

section
/-! The frames of memory: what an instruction leaves that stores nothing, stores to its data address, or pushes (20_memory.md R73, R82
to R87, 30_encoding.md R134). -/

namespace Sys2Proof.Machine

open Sys2Proof.Vocab

/-- A change of the CPU's registers and of the cycles owed alone. -/
def CpuOnly (s t : State) : Prop :=
  t = { s with a := t.a, x := t.x, y := t.y, s := t.s, p := t.p, pc := t.pc, idle := t.idle }

theorem CpuOnly.retire {s t : State} (h : CpuOnly s t) (n : Nat) : CpuOnly s (retire n t) := (congrArg (Machine.retire n) h :)

theorem CpuOnly.peek_eq {s t : State} (h : CpuOnly s t) (b : Addr) : peek b t = peek b s := by
  rw [h]
  exact peek_congr rfl rfl (fun _ => rfl) (fun _ _ => rfl) (fun _ => rfl) (fun _ _ => rfl) fun _ => rfl

theorem readOps_cpuOnly {o : Op} {f : Byte → State → State} (h : (o, f) ∈ readOps) (m : Byte) (s : State) : CpuOnly s (f m s) := by
  rw [readOps_state h]
  rfl

theorem rmwOps_cpuOnly {o : Op} {f : Byte → State → Byte} {g : Byte → Byte → State → State} (h : (o, f, g) ∈ rmwOps) (m r : Byte)
    (s : State) : CpuOnly s (g m r s) := by
  rw [rmwOps_state h]
  rfl

theorem registerOps_cpuOnly {o : Op} {f : State → State} (h : (o, f) ∈ registerOps) (s : State) : CpuOnly s (f s) := by
  rw [registerOps_state h]
  rfl

/-- The stack instructions that pull. -/
theorem stackOps_cpuOnly {o : Op} {f : State → State} (h : (o, f) ∈ stackOps) (ho : o ∉ pushing) (s : State) : CpuOnly s (f s) := by
  have all : ∀ c ∈ stackOps, c.1 ∉ pushing → CpuOnly s (c.2 s) := by
    simp only [stackOps, List.forall_mem_cons]
    refine ⟨fun h => absurd (by decide) h, fun h => absurd (by decide) h, fun _ => ?_, fun _ => ?_, fun _ => ?_,
      fun h => absurd (by decide) h, fun _ => ?_, List.forall_mem_nil _⟩
    · rw [pla_eq]; rfl
    · rw [plp_eq]; rfl
    · rw [rts_eq]; rfl
    · rw [returnFromException_eq]; rfl
  exact all (o, f) h ho

theorem branch_cpuOnly (taken : Bool) (d : Byte) (s : State) : CpuOnly s (branch taken d s) := by
  unfold branch
  dsimp only
  split <;> rfl

/-! Instructions that store nothing -/

/-- The bus reads at a list of addresses, one after the other. -/
def afterReadsAt (l : List Addr) (s : State) : State := l.foldl (fun t a => (memRead a t).2) s

theorem dataMode_of_mode {i : Instr} (h : i.mode ∉ memoryModes) : dataMode i = none := by
  obtain ⟨op, nn, w, hi, hrow⟩ := exists_row i
  rw [Instr.mode, hrow] at h
  rw [hi, dataMode_opTable]
  exact OpRow.data_eq_none h nn w

theorem dataReads_eq {i : Instr} (h : ∀ w, i ≠ .jmpInd w) (s : State) : dataReads i s = (dataAddr i s).toList := by
  unfold dataReads
  split
  · exact absurd rfl (h _)
  · rfl

theorem dataReads_nil {i : Instr} (h : ∀ w, i ≠ .jmpInd w) (hm : dataMode i = none) (s : State) : dataReads i s = [] := by
  rw [dataReads_eq h, dataAddr, hm]
  rfl

/-- An instruction that neither stores nor pushes makes its data reads, and then changes the CPU alone. -/
theorem exec_reads {i : Instr} {s t : State} (hstore : i.op ∉ storing ∨ i.mode = .acc) (hpush : i.op ∉ pushing) (h : exec i s = .next t) :
    CpuOnly (afterReadsAt (dataReads i s) s) t := by
  have noStore {β : Type} {l : List (Op × β)} {b : β} {m : AddrMode} (hl : ∀ o ∈ l.map Prod.fst, o ∈ storing) (hop : (i.op, b) ∈ l)
      (hm : dataMode i = some m) : False := by
    have hacc := hstore.resolve_left fun hno => hno (hl _ (List.mem_map_of_mem hop))
    rw [dataMode_of_mode (by rw [hacc]; decide)] at hm
    cases hm
  by_cases hjmp : ∃ w, i = .jmpInd w
  · obtain ⟨w, rfl⟩ := hjmp
    obtain rfl := Host.Outcome.next.inj ((rfl : exec (.jmpInd w) s = .next (retire 5 (jumpIndirect w s))).symm.trans h)
    rfl
  replace hjmp := not_exists.1 hjmp
  have noRead {u : State} (hm : dataMode i = none) (hu : CpuOnly s u) : CpuOnly (afterReadsAt (dataReads i s) s) u := by
    rwa [dataReads_nil hjmp hm]
  cases exec_runs h with
  | read hf o ho =>
    cases o with
    | imm v => exact noRead ho.symm ((readOps_cpuOnly hf _ _).retire _)
    | mem m =>
      rw [dataReads_eq hjmp, dataAddr, ← ho]
      exact (readOps_cpuOnly hf _ _).retire _
  | write hv hm => exact (noStore (by decide) hv hm).elim
  | rmw hf hm => exact (noStore (by decide) hf hm).elim
  | @acc f g hf hm hacc =>
    have shifted : CpuOnly { s with a := f s.a s } (g s.a (f s.a s) { s with a := f s.a s }) := rmwOps_cpuOnly hf _ _ _
    exact noRead hm (CpuOnly.retire (shifted :) _)
  | branch hc d =>
    have hrel : i.mode = .rel := (opTable_branch i.opcode (List.mem_map_of_mem hc)).2
    exact noRead (dataMode_of_mode (by rw [hrel]; decide)) (branch_cpuOnly _ d s)
  | register hf hm => exact noRead hm ((registerOps_cpuOnly hf s).retire _)
  | stack hf hm => exact noRead hm ((stackOps_cpuOnly hf hpush s).retire _)
  | jump w hop hm => exact noRead hm rfl
  | jumpIndirect w hop hi => exact absurd hi (hjmp w)
  | jsr w hop => exact absurd (hop ▸ by decide) hpush

/-- What bus reads leave: everything but some PPU registers and the controller. -/
theorem afterReadsAt_keeps (l : List Addr) (s : State) :
    (afterReadsAt l s) = { s with ppu := (afterReadsAt l s).ppu, pad := (afterReadsAt l s).pad } ∧
    (afterReadsAt l s).ppu =
      { s.ppu with
        vblank := (afterReadsAt l s).ppu.vblank, w := (afterReadsAt l s).ppu.w, v := (afterReadsAt l s).ppu.v,
        readbuf := (afterReadsAt l s).ppu.readbuf } := by
  induction l generalizing s with
  | nil => exact ⟨rfl, rfl⟩
  | cons a l ih =>
    obtain ⟨hstate, hppu⟩ := ih (memRead a s).2
    exact ⟨by rw [afterReadsAt, List.foldl_cons, ← afterReadsAt, hstate, memRead_state], by
      rw [afterReadsAt, List.foldl_cons, ← afterReadsAt, hppu, memRead_ppu]⟩

theorem afterReadsAt_of_quiet {l : List Addr} (h : ∀ a ∈ l, quiet a) (s : State) : afterReadsAt l s = s := by
  induction l with
  | nil => rfl
  | cons a l ih =>
    rw [afterReadsAt, List.foldl_cons, ← afterReadsAt, memRead_of_quiet (h a List.mem_cons_self)]
    exact ih fun b hb => h b (List.mem_cons_of_mem _ hb)

/-- Settles O31: such an instruction makes its data reads and then changes the CPU alone. -/
theorem nonStoringInstructionsLeaveMemory : Obligations.NonStoringInstructionsLeaveMemory := by
  intro i s t hstore hpush h
  have cpu := exec_reads hstore hpush h
  obtain ⟨hstate, hppu⟩ := afterReadsAt_keeps (dataReads i s) s
  refine ⟨?_, fun a ha => ?_, fun hquiet => ?_⟩
  · have same : t.ppu = (afterReadsAt (dataReads i s) s).ppu := (congrArg State.ppu cpu :)
    rw [same, hppu, cpu, hstate]
    exact ⟨rfl, rfl, rfl, rfl, rfl, rfl, rfl, rfl, rfl, rfl, rfl, rfl⟩
  · rw [cpu.peek_eq, hstate]
    unfold quiet at ha
    exact peek_congr rfl rfl (fun _ => rfl) (fun hlow hhigh => absurd ha (by bv_omega)) (fun hpad => absurd ha (by bv_omega))
      (fun _ _ => rfl) fun _ => rfl
  · rw [afterReadsAt_of_quiet hquiet] at cpu
    exact ⟨(congrArg State.ppu cpu :), (congrArg State.pad cpu :), cpu.peek_eq⟩

/-! Instructions that store to their data address -/

/-- What a storing form does: at most a read at the address, one write there, and a change of the CPU alone. -/
theorem exec_stores {i : Instr} {s t : State} {e : Addr} (hstore : i.op ∈ storing) (he : dataAddr i s = some e) (h : exec i s = .next t) :
    ∃ u w, OneDevice e s u ∧ u.mapper = s.mapper ∧ OneDevice e u w ∧ CpuOnly w t := by
  have atAddr {m : AddrMode} (hm : dataMode i = some m) : effAddr m s = e := by
    rw [dataAddr, hm] at he
    exact Option.some.inj he
  have absent {β : Type} {l : List (Op × β)} {b : β} (hl : ∀ o ∈ l.map Prod.fst, o ∉ storing) (hop : (i.op, b) ∈ l) : False :=
    hl _ (List.mem_map_of_mem hop) hstore
  cases exec_runs h with
  | read hf o ho => exact (absent (by decide) hf).elim
  | write hv hm =>
    obtain rfl := atAddr hm
    exact ⟨s, _, .nothing, rfl, memWrite_oneDevice .., rfl⟩
  | rmw hf hm =>
    obtain rfl := atAddr hm
    exact ⟨_, _, memRead_oneDevice .., memRead_mapper .., memWrite_oneDevice .., (rmwOps_cpuOnly hf _ _ _).retire _⟩
  | acc hf hm hacc =>
    rw [dataAddr, hm] at he
    cases he
  | branch hc d => exact (absent (by decide) hc).elim
  | register hf hm => exact (absent (by decide) hf).elim
  | stack hf hm => exact (absent (by decide) hf).elim
  | jump w hop hm => exact absurd (hop ▸ hstore) (by decide)
  | jumpIndirect w hop hi => exact absurd (hop ▸ hstore) (by decide)
  | jsr w hop => exact absurd (hop ▸ hstore) (by decide)

/-- Settles O32: both accesses are at the data address, and each changes its one device. -/
theorem storingInstructionsLeaveTheOtherBytes : Obligations.StoringInstructionsLeaveTheOtherBytes := by
  intro i s t e hstore he h
  obtain ⟨u, w, read, hmapper, write, cpu⟩ := exec_stores hstore he h
  have hw : t = { w with a := t.a, x := t.x, y := t.y, s := t.s, p := t.p, pc := t.pc, idle := t.idle } := cpu
  refine ⟨fun b hb => ?_, fun h => ?_, fun h => ?_, fun h => ?_, fun h => ?_, fun h => ?_, fun h => ?_, fun h => ?_⟩
  · have hu : ¬ touched e b u := by rwa [touched, hmapper]
    rw [cpu.peek_eq, write.peek_eq hu, read.peek_eq hb]
  · rw [hw]
    exact (write.ram_eq h).trans (read.ram_eq h)
  · obtain ⟨hppu, hchr⟩ := write.ppu_eq h
    obtain ⟨hppu', hchr'⟩ := read.ppu_eq h
    rw [hw]
    exact ⟨hppu.trans hppu', hchr.trans hchr'⟩
  · rw [hw]
    exact (write.dma_eq h).trans (read.dma_eq h)
  · rw [hw]
    exact (write.pad_eq h).trans (read.pad_eq h)
  · rw [hw]
    exact (write.apu_eq h).trans (read.apu_eq h)
  · rw [hw]
    exact (write.wram_eq h).trans (read.wram_eq h)
  · obtain ⟨hm, hmode⟩ := write.mapper_eq h
    obtain ⟨hm', hmode'⟩ := read.mapper_eq h
    rw [hw]
    exact ⟨hm.trans hm', hmode.trans hmode'⟩

/-! Instructions that push -/

theorem instr_of_op {i j : Instr} {b : Byte} (hop : ∀ b' : Byte, (opTable b').op = (opTable b).op → b' = b)
    (hj : ∀ nn w, (opTable b).format.instr nn w = j) (hi : i.op = (opTable b).op) : i = j := by
  obtain ⟨op, nn, w, rfl, hrow⟩ := exists_row i
  rw [Instr.op, hrow] at hi
  rw [hop op hi, hj]

/-- Bytes outside the stack slots written read as before. -/
theorem peek_of_slots {s t : State} {n : Nat}
    (hs : t = { s with ram := t.ram, s := t.s, p := t.p, pc := t.pc, idle := t.idle })
    (hram : ∀ c, (∀ k, k < n → c ≠ slotDown s (BitVec.ofNat 8 k)) → Memory.read t.ram c = Memory.read s.ram c) {b : Addr}
    (hb : ∀ k, k < n → ¬(b < 0x2000#16 ∧ b.toNat % 2048 = (stackAddr (s.s - BitVec.ofNat 8 k)).toNat)) : peek b t = peek b s := by
  rw [hs]
  refine peek_congr rfl rfl (fun hlow => hram _ fun k hk heq => hb k hk ⟨hlow, ?_⟩) (fun _ _ => rfl) (fun _ => rfl) (fun _ _ => rfl)
    fun _ => rfl
  rw [stackAddr_toNat, heq, slotDown]

theorem ram1_other {s : State} {b0 : Byte} {c : Nat} (h : ∀ k, k < 1 → c ≠ slotDown s (BitVec.ofNat 8 k)) :
    Memory.read (ram1 s b0) c = Memory.read s.ram c := Memory.read_write_other _ _ (h 0 (by decide))

theorem ram2_other {s : State} {b0 b1 : Byte} {c : Nat} (h : ∀ k, k < 2 → c ≠ slotDown s (BitVec.ofNat 8 k)) :
    Memory.read (ram2 s b0 b1) c = Memory.read s.ram c :=
  (Memory.read_write_other _ _ (h 1 (by decide))).trans (ram1_other fun k hk => h k (by omega))

theorem ram3_other {s : State} {b0 b1 b2 : Byte} {c : Nat} (h : ∀ k, k < 3 → c ≠ slotDown s (BitVec.ofNat 8 k)) :
    Memory.read (ram3 s b0 b1 b2) c = Memory.read s.ram c :=
  (Memory.read_write_other _ _ (h 2 (by decide))).trans (ram2_other fun k hk => h k (by omega))

/-- Settles O33: the equations of the four instructions, and reads of the slots that they fill. -/
theorem pushingInstructionsLeaveTheOtherBytes : Obligations.PushingInstructionsLeaveTheOtherBytes := by
  intro i s t n hop h
  rcases hop with ⟨hpha | hphp, rfl⟩ | ⟨hjsr, rfl⟩ | ⟨hbrk, rfl⟩
  · obtain rfl : i = .pha := instr_of_op (b := 0x48#8) (by decide) (fun _ _ => rfl) hpha
    obtain rfl := Host.Outcome.next.inj ((stackInstructionsCompleteOnTheStack s).1.2.symm.trans h)
    exact ⟨rfl, fun b hb => peek_of_slots (n := 1) rfl (fun c hc => ram1_other hc) hb⟩
  · obtain rfl : i = .php := instr_of_op (b := 0x08#8) (by decide) (fun _ _ => rfl) hphp
    obtain rfl := Host.Outcome.next.inj ((stackInstructionsCompleteOnTheStack s).2.1.2.symm.trans h)
    exact ⟨rfl, fun b hb => peek_of_slots (n := 1) rfl (fun c hc => ram1_other hc) hb⟩
  · obtain ⟨w, rfl⟩ : ∃ w, i = .jsr w := by
      obtain ⟨op, nn, w, rfl, hrow⟩ := exists_row i
      have only : ∀ b : Byte, (opTable b).op = .jsr → b = 0x20#8 := by decide
      rw [Instr.op, hrow] at hjsr
      exact ⟨w, by rw [only op hjsr]; rfl⟩
    obtain rfl := Host.Outcome.next.inj ((jsrAndRtsCompleteOnTheStack s w).1.2.symm.trans h)
    exact ⟨rfl, fun b hb => peek_of_slots (n := 2) rfl (fun c hc => ram2_other hc) hb⟩
  · obtain rfl : i = .brk := instr_of_op (b := 0x00#8) (by decide) (fun _ _ => rfl) hbrk
    obtain rfl := Host.Outcome.next.inj ((brkEntersItsHandler s).2.symm.trans h)
    exact ⟨rfl, fun b hb => peek_of_slots (n := 3) rfl (fun c hc => ram3_other hc) hb⟩

end Sys2Proof.Machine
end

section
/-! The latches at an instruction boundary, and the devices behind the bus (60_exceptions.md R522 to R530, 50_bus_devices.md R331 to R336,
52_mappers.md R458 to R490, 51_ppu.md R354). -/

namespace Sys2Proof.Machine

open Sys2Proof.Vocab

/-! The poll -/

/-- A cycle of the DMA engine touches the engine, and the PPU and the controller through its read. -/
theorem dmaCycle_state (s : State) :
    dmaCycle s = { s with ppu := (dmaCycle s).ppu, pad := (dmaCycle s).pad, dma := (dmaCycle s).dma } := by
  unfold dmaCycle
  split
  · rfl
  split
  · simp only [dmaRead]
    rw [memRead_state]
  · rfl

theorem cpuSlot_of_idle {s : State} (hdma : s.dma.active = false) : cpuSlot s = cpuCycle s := by simp [cpuSlot, hdma]

theorem fetchInstr_latches (s : State) :
    (fetchInstr s).2.irqPending = s.irqPending ∧ (fetchInstr s).2.nmiPending = s.nmiPending :=
  fetchInstr_keeps (P := fun u => u.irqPending = s.irqPending ∧ u.nmiPending = s.nmiPending)
    (fun _ _ h => by rwa [memRead_irqPending, memRead_nmiPending]) (fun _ _ _ h => h) ⟨rfl, rfl⟩

/-- Settles O43: a DMA cycle and an owed cycle see no latch; at a boundary the poll decides between the entries and the fetch. -/
theorem latchesAreExaminedOnlyAtBoundaries : Obligations.LatchesAreExaminedOnlyAtBoundaries := by
  intro s
  refine ⟨fun hdma => ?_, fun hdma hidle => ?_, fun hdma hidle hnmi => ?_, fun hdma hidle hnmi hirq hmask => ?_,
    fun hdma hidle hnmi hirq => ?_⟩
  · refine ⟨dmaCycle s, by simp [cpuSlot, hdma], ?_⟩
    rw [dmaCycle_state]
    exact ⟨rfl, rfl, rfl, rfl, rfl, rfl, rfl, rfl, rfl⟩
  · simp [cpuSlot_of_idle hdma, cpuCycle, hidle]
  · refine ⟨_, (cpuSlot_of_idle hdma).trans ((interruptEntrySavesAndVectors s hidle).1 hnmi), rfl, rfl, rfl, ?_⟩
    obtain ⟨high, low, -⟩ := stacked_of_ram3 (s := s) (t := { s with
      ram := ram3 s (hiByte s.pc) (loByte s.pc) ((s.p &&& 0xEF#8) ||| 0x20#8), s := s.s - 3#8 }) rfl rfl
    exact ⟨high, low⟩
  · refine ⟨_, (cpuSlot_of_idle hdma).trans ((interruptEntrySavesAndVectors s hidle).2 hnmi hirq hmask), rfl, hnmi, rfl, ?_⟩
    obtain ⟨high, low, -⟩ := stacked_of_ram3 (s := s) (t := { s with
      ram := ram3 s (hiByte s.pc) (loByte s.pc) ((s.p &&& 0xEF#8) ||| 0x20#8), s := s.s - 3#8 }) rfl rfl
    exact ⟨high, low⟩
  · obtain ⟨-, -, hI, -, -⟩ := hasFlag_eq_getLsbD s.p
    have slot := cpuSlot_boundary hdma hidle hnmi (hI ▸ hirq)
    obtain ⟨t, ht⟩ := exec_next (fetchInstr s).1 (fetchInstr s).2
    obtain ⟨-, -, -, -, -, -, irq, nmi, -⟩ := instructionsLeaveTheOtherRegisters _ _ _ ht
    obtain ⟨irq', nmi'⟩ := fetchInstr_latches s
    exact ⟨t, slot.trans ht, ht, irq.trans irq', nmi.trans (nmi'.trans hnmi)⟩

/-! WRAM, the APU stub, unclaimed addresses -/

theorem peek_at_wram {b : Addr} (h : 0x6000#16 ≤ b) (h' : b < 0x8000#16) (s : State) : peek b s = Memory.read s.wram (b.toNat - 0x6000) := by
  rw [peek, memRead, if_neg (by bv_omega), if_neg (by bv_omega), if_neg (by bv_omega), if_neg (by bv_omega), if_neg (by bv_omega),
    if_neg (by bv_omega), mapperCpuRead, if_neg (by bv_omega), if_pos h']
  rfl

/-- The I/O strip but the controller port, and the addresses below the cartridge, read $00 with no side effect. -/
theorem memRead_at_strip {a : Addr} (h : 0x4000#16 ≤ a) (h' : a < 0x6000#16) (hpad : a ≠ 0x4016#16) (s : State) : memRead a s = (0x00#8, s) := by
  have hmiss : mapperCpuRead a s = none := if_pos h'
  rw [memRead, if_neg (by bv_omega), if_neg (by bv_omega), if_neg hpad, hmiss]
  simp [apuRead, busMiss]

/-- Settles O35: each region's access is one memory's read or write, or nothing. -/
theorem wramApuAndUnclaimedAddresses : Obligations.WramApuAndUnclaimedAddresses := by
  intro s a b v
  refine ⟨fun ha ha' hb hb' => ?_, fun ha => ?_, memWrite_at_unclaimed (v := v) (s := s), fun ha => ?_⟩
  · have same : b.toNat - 0x6000 = a.toNat - 0x6000 ↔ b = a := by
      constructor <;> intro h
      · bv_omega
      · rw [h]
    rw [memWrite_at_wram ha ha', peek_at_wram hb hb', peek_at_wram hb hb', Memory.read_write]
    simp only [same]
  · exact memRead_at_strip (by bv_omega) (by bv_omega) (by bv_omega) s
  · have hapu : apuAddr a := by unfold apuAddr; bv_omega
    have cell : a.toNat - 0x4000 = a.toNat % 32 := by bv_omega
    rw [memWrite_at_apu hapu, apuWrite, cell]
    exact ⟨rfl, fun k _ => Memory.read_write ..⟩

/-! The mappers' registers -/

/-- Address bits 14, 13 and 0 choose TxROM's register (R490). -/
theorem txWrite_key (m : TxRegs) (a : Addr) (d : Byte) (s : State) : txWrite m a d s = txWrite m (a &&& 0xE001#16) d s := by
  have window : a.toNat / 8192 % 4 = (a &&& 0xE001#16).toNat / 8192 % 4 := by
    rw [BitVec.toNat_and, show 8192 = 2 ^ 13 from rfl, Nat.and_div_two_pow, show (0xE001#16).toNat / 2 ^ 13 = 2 ^ 3 - 1 from rfl,
      Nat.and_two_pow_sub_one_eq_mod]
    omega
  have odd : a.getLsbD 0 = (a &&& 0xE001#16).getLsbD 0 := by simp
  rw [txWrite, window, odd, ← txWrite]

/-- Settles O41: the eight keys are the eight branches of the write. -/
theorem txromWritesItsRegisters : Obligations.TxromWritesItsRegisters := by
  intro s m a d hs ha
  have write {k : Addr} (hk : a &&& 0xE001#16 = k) : memWrite a d s = txWrite m k d s := by
    rw [memWrite_at_txrom hs ha, ← hk]
    exact txWrite_key m a d s
  exact ⟨fun hk => write hk, fun hk => write hk, fun hk => write hk, fun hk => write hk, fun hk => write hk, fun hk => write hk,
    fun hk => write hk, fun hk => write hk⟩

/-- The register window of an address of $8000-$FFFF: address bits 14 and 13 (R471). -/
theorem window_eq {a : Addr} (ha : 0x8000#16 ≤ a) :
    a.toNat / 8192 % 4 =
      if a < 0xA000#16 then 0 else if a < 0xC000#16 then 1 else if a < 0xE000#16 then 2 else 3 := by
  split
  · bv_omega
  split
  · bv_omega
  split <;> bv_omega

/-- A serial write with bit 7 clear before the fifth takes its bit into the shift register. -/
theorem serialBit {s : State} {m : SxRegs} {a : Addr} {d : Byte} (hs : s.mapper = .sxrom m) (ha : 0x8000#16 ≤ a) (hd : d.getLsbD 7 = false)
    (hm : m.count < 4) :
    memWrite a d s = { s with mapper := .sxrom { m with shift := sxShiftIn m.shift d, count := m.count + 1 } } := by
  rw [memWrite_at_sxrom hs ha]
  simp only [sxWrite, hd, Bool.false_eq_true, if_false]
  rw [if_neg (by omega)]

/-- The fifth latches. -/
theorem serialLatch {s : State} {m : SxRegs} {a : Addr} {d : Byte} (hs : s.mapper = .sxrom m) (ha : 0x8000#16 ≤ a) (hd : d.getLsbD 7 = false)
    (hm : m.count = 4) : memWrite a d s = sxLatch m a (sxShiftIn m.shift d) s := by
  rw [memWrite_at_sxrom hs ha]
  simp only [sxWrite, hd, hm, Bool.false_eq_true, if_false, if_true]

theorem sxShiftIn_eq (r : BitVec 5) (d : Byte) : sxShiftIn r d = (r >>> 1) ||| (BitVec.ofNat 5 (d.getLsbD 0).toNat <<< 4) := by
  have bit : d.setWidth 5 &&& 1#5 = BitVec.ofNat 5 (d.getLsbD 0).toNat := by
    revert d
    decide
  rw [sxShiftIn, bit]

/-- Five bits shifted in, first lowest, push the old ones out. -/
theorem sxShiftIn_five (r : BitVec 5) (d0 d1 d2 d3 d4 : Byte) :
    sxShiftIn (sxShiftIn (sxShiftIn (sxShiftIn (sxShiftIn r d0) d1) d2) d3) d4 =
      serial (d0.getLsbD 0) (d1.getLsbD 0) (d2.getLsbD 0) (d3.getLsbD 0) (d4.getLsbD 0) := by
  simp only [sxShiftIn_eq]
  generalize d0.getLsbD 0 = b0, d1.getLsbD 0 = b1, d2.getLsbD 0 = b2, d3.getLsbD 0 = b3, d4.getLsbD 0 = b4
  revert r b0 b1 b2 b3 b4
  decide

/-- The mirroring mode of SxROM's control register (R472). -/
theorem sxMirroring_eq (v : BitVec 5) :
    sxMirroring v = [Mirroring.singleLow, .singleHigh, .vertical, .horizontal].getD (v.toNat % 4) .horizontal := by
  revert v
  decide

/-- What the fifth write latches, by the address's window (R471). -/
theorem sxLatch_eq {a : Addr} (ha : 0x8000#16 ≤ a) (m : SxRegs) (v : BitVec 5) (s : State) :
    sxLatch m a v s =
      if a < 0xA000#16 then
        setMirroring (sxMirroring v) { s with mapper := .sxrom { m with shift := 0, count := 0, control := v } }
      else if a < 0xC000#16 then { s with mapper := .sxrom { m with shift := 0, count := 0, chr0 := v } }
      else if a < 0xE000#16 then { s with mapper := .sxrom { m with shift := 0, count := 0, chr1 := v } }
      else { s with mapper := .sxrom { m with shift := 0, count := 0, prg := v } } := by
  rw [sxLatch, window_eq ha]
  (repeat' split) <;> simp_all

theorem setMirroring_mapper (mode : Mirroring) (s : State) : (setMirroring mode s).mapper = s.mapper := by rw [setMirroring_state]

/-- Settles O40: four writes shift their bits in, the fifth latches what the five make; bit 7 restarts the sequence. -/
theorem sxromSerialPortLoadsARegister : Obligations.SxromSerialPortLoadsARegister := by
  rintro s m a0 a1 a2 a3 a4 d0 d1 d2 d3 d4 hs ⟨h0, h1, h2, h3, h4⟩
  refine ⟨fun hcount ⟨e0, e1, e2, e3, e4⟩ => ?_, fun hd => ?_⟩
  · have latched : memWrite a4 d4 (memWrite a3 d3 (memWrite a2 d2 (memWrite a1 d1 (memWrite a0 d0 s)))) =
        sxLatch m a4 (serial (d0.getLsbD 0) (d1.getLsbD 0) (d2.getLsbD 0) (d3.getLsbD 0) (d4.getLsbD 0)) s := by
      rw [serialBit hs h0 e0 (by omega), serialBit rfl h1 e1 (by simp [hcount]), serialBit rfl h2 e2 (by simp [hcount]),
        serialBit rfl h3 e3 (by simp [hcount]), serialLatch rfl h4 e4 (by simp [hcount]), sxShiftIn_five]
      simp only [sxLatch_eq h4, setMirroring]
    dsimp only
    rw [latched, sxLatch_eq h4]
    refine ⟨fun h => ?_, fun h h' => ?_, fun h h' => ?_, fun h => ?_, ?_⟩
    · rw [if_pos h, setMirroring_mapper]
    · rw [if_neg (by bv_omega), if_pos h']
    · rw [if_neg (by bv_omega), if_neg (by bv_omega), if_pos h']
    · rw [if_neg (by bv_omega), if_neg (by bv_omega), if_neg (by bv_omega)]
    · by_cases hcontrol : a4 < 0xA000#16
      · rw [if_pos hcontrol, setMirroring, ← sxMirroring_eq]
        by_cases hfour : s.cfg.cart.mirroring = .fourScreen <;> simp [hcontrol, hfour]
      · have kept : ¬(a4 < 0xA000#16 ∧ s.cfg.cart.mirroring ≠ .fourScreen) := fun h => hcontrol h.1
        rw [if_neg hcontrol, if_neg kept]
        (repeat' split) <;> rfl
  · rw [memWrite_at_sxrom hs h0]
    simp only [sxWrite, hd, if_true]

/-! The controller -/

/-- A read of the port while the strobe is high gives button A and moves nothing. -/
theorem memRead_pad_high {s : State} (h : s.pad.strobe = true) :
    memRead 0x4016#16 s = (boolByte (s.host.buttons.getLsbD 0), s) := by
  have read : memRead 0x4016#16 s = padRead s := rfl
  rw [read, padRead, if_pos h]

theorem afterReads_high {s : State} (h : s.pad.strobe = true) (k : Nat) : afterReads k s = s := by
  induction k with
  | zero => rfl
  | succ k ih => rw [afterReads, memRead_pad_high h, ih]

/-- A read of the port while the strobe is low gives the snapshot's bit of the cursor and moves the cursor on, up to 8. -/
theorem memRead_pad_low {s : State} (h : s.pad.strobe = false) :
    memRead 0x4016#16 s =
      if s.pad.cursor < 8 then
        (boolByte (s.pad.snapshot.getLsbD s.pad.cursor), { s with pad := { s.pad with cursor := s.pad.cursor + 1 } })
      else (0x01#8, s) := by
  have read : memRead 0x4016#16 s = padRead s := rfl
  rw [read, padRead, if_neg (by simp [h])]

theorem afterReads_low {s : State} (h : s.pad.strobe = false) (hc : s.pad.cursor ≤ 8) (k : Nat) :
    afterReads k s = { s with pad := { s.pad with cursor := min (s.pad.cursor + k) 8 } } := by
  induction k generalizing s with
  | zero => rw [afterReads, Nat.add_zero, min_eq_left hc]
  | succ k ih =>
    rw [afterReads, memRead_pad_low h]
    split
    next hlt =>
      rw [ih (s := { s with pad := { s.pad with cursor := s.pad.cursor + 1 } }) h hlt]
      have cursor : s.pad.cursor + 1 + k = s.pad.cursor + (k + 1) := by omega
      simp only [cursor]
    next hge =>
      have full : min (s.pad.cursor + k) 8 = min (s.pad.cursor + (k + 1)) 8 := by omega
      rw [ih h hc, full]

theorem boolByte_toNat (b : Bool) : (boolByte b).toNat = b.toNat := by cases b <;> rfl

/-- Settles O46: the write of 1 holds the strobe high; the write of 0 takes the snapshot, and each read moves the cursor. -/
theorem controllerShiftsItsButtonsOut : Obligations.ControllerShiftsItsButtonsOut := by
  intro s v v' k hv hv'
  have high : memWrite 0x4016#16 v s = { s with pad := { s.pad with strobe := true } } := by
    have write : memWrite 0x4016#16 v s = padWrite v s := rfl
    rw [write, padWrite, if_pos hv]
  have low (u : State) : memWrite 0x4016#16 v' u = { u with pad := { strobe := false, snapshot := u.host.buttons, cursor := 0 } } := by
    have write : memWrite 0x4016#16 v' u = padWrite v' u := rfl
    rw [write, padWrite, if_neg (Bool.eq_false_iff.1 hv')]
  dsimp only
  rw [high, low]
  constructor
  · rw [afterReads_low rfl (Nat.zero_le _), peek, memRead_pad_low rfl]
    by_cases hk : k < 8
    · have cursor : min (0 + k) 8 = k := by omega
      simp only [cursor, hk, if_true, boolByte_toNat]
    · have full : min k 8 = 8 := by omega
      simp [hk, full]
  · rw [afterReads_high rfl, peek, memRead_pad_high rfl, boolByte_toNat]

/-! PPUSTATUS -/

theorem statusByte_toNat (p : Ppu) :
    (statusByte p).toNat = 128 * p.vblank.toNat + 64 * p.spr0hit.toNat + 32 * p.overflow.toNat := by
  unfold statusByte
  cases p.vblank <;> cases p.spr0hit <;> cases p.overflow <;> rfl

/-- Settles O47: every mirror of PPUSTATUS is register 2. -/
theorem ppuStatusReadClearsVblankAndLatch : Obligations.PpuStatusReadClearsVblankAndLatch := by
  intro s a hlow hhigh hreg
  have read : memRead a s = statusRead s := by
    rw [memRead_at_ppu hlow hhigh, hreg]
    rfl
  rw [peek, read]
  exact ⟨statusByte_toNat s.ppu, rfl⟩

end Sys2Proof.Machine
end

section
/-! The bank-view tables in numbers (10_state.md R53, 52_mappers.md R456 to R501), and the reset vector (70_reset_and_hazards.md R562). -/

namespace Sys2Proof.Machine

open Sys2Proof.Vocab

theorem getLsbD_eq_div {w : Nat} (v : BitVec w) (k : Nat) : v.getLsbD k = decide (v.toNat / 2 ^ k % 2 = 1) :=
  Nat.testBit_eq_decide_div_mod_eq

/-- Windows side by side, by their number. -/
theorem windows_eq (base size total : Nat) (banks : List Nat) :
    windows base size total banks =
      (List.range banks.length).map fun i => (base + i * size, size, banks.getD i 0 % (total / size) * size) := by
  refine List.ext_getElem (by simp [windows]) fun i h _ => ?_
  have hi : i < banks.length := by simpa [windows] using h
  simp only [windows, List.getElem_map, List.getElem_zipIdx, List.getElem_range, List.getD_eq_getElem _ _ hi, Nat.zero_add]

/-- `b` banks of `size` bytes and `r` more, in data of `n` banks (R456). -/
theorem bank_mod {b size r n : Nat} (hr : r < size) : (b * size + r) % (size * n) = b % n * size + r := by
  have hdiv : (b * size + r) / size = b := by
    rw [Nat.add_comm, Nat.add_mul_div_right _ _ (by omega), Nat.div_eq_of_lt hr, Nat.zero_add]
  rw [Nat.mod_mul, hdiv, Nat.mul_add_mod_self_right, Nat.mod_eq_of_lt hr, Nat.mul_comm size, Nat.add_comm]

/-! The CPU side -/

/-- How many windows a mapper's PRG view has. -/
def prgCount : Mapper → Nat
  | .nrom | .sxrom _ => 2
  | .txrom _ => 4

theorem prgBanksShown_length (n : Nat) (m : Mapper) : (prgBanksShown n m).length = prgCount m := by
  cases m with
  | nrom => rfl
  | sxrom m =>
    have hmode : m.control.toNat / 4 % 4 < 4 := Nat.mod_lt _ (by decide)
    simp only [prgBanksShown]
    generalize m.control.toNat / 4 % 4 = mode at hmode
    interval_cases mode <;> rfl
  | txrom m =>
    simp only [prgBanksShown]
    split <;> rfl

theorem prgView_eq (s : State) :
    prgView s = (List.range (prgCount s.mapper)).map fun i =>
      (0x8000 + i * prgWindow s.mapper, prgWindow s.mapper, prgOffset s (BitVec.ofNat 16 (0x8000 + i * prgWindow s.mapper))) := by
  cases hm : s.mapper <;> simp [prgView, hm, prgCount, prgWindow, List.range_succ]

/-- The place in the PRG data of byte `o` of window `i`, from the bank that the window shows (R463, R480, R500). -/
theorem prgOffset_eq {s : State} {i o : Nat} (hi : i < prgCount s.mapper) (ho : o < prgWindow s.mapper) :
    prgOffset s (BitVec.ofNat 16 (0x8000 + i * prgWindow s.mapper + o)) =
      (prgBanksShown s.cfg.cart.prgBanks s.mapper).getD i 0 % (16384 * s.cfg.cart.prgBanks / prgWindow s.mapper) * prgWindow s.mapper + o := by
  cases hm : s.mapper with
  | nrom =>
    simp only [hm, prgCount, prgWindow] at hi ho ⊢
    have hval : (BitVec.ofNat 16 (0x8000 + i * 16384 + o)).toNat = 0x8000 + i * 16384 + o := Nat.mod_eq_of_lt (by omega)
    have hbank : (0x8000 + i * 16384 + o) / 16384 % 2 = i := by omega
    have hbyte : (0x8000 + i * 16384 + o) % 16384 = o := by omega
    have hcount : 16384 * s.cfg.cart.prgBanks / 16384 = s.cfg.cart.prgBanks := by omega
    simp only [prgOffset, hm, nromPrgOffset, prg16, hval, hbank, hbyte, hcount, prgBankSize]
    interval_cases i <;> rfl
  | sxrom m =>
    simp only [hm, prgCount, prgWindow] at hi ho ⊢
    have hval : (BitVec.ofNat 16 (0x8000 + i * 16384 + o)).toNat = 0x8000 + i * 16384 + o := Nat.mod_eq_of_lt (by omega)
    have hbank : (0x8000 + i * 16384 + o) / 16384 % 2 = i := by omega
    have hbyte : (0x8000 + i * 16384 + o) % 16384 = o := by omega
    have hcount : 16384 * s.cfg.cart.prgBanks / 16384 = s.cfg.cart.prgBanks := by omega
    have hmode : m.control.toNat / 4 % 4 < 4 := Nat.mod_lt _ (by decide)
    simp only [prgOffset, hm, sxPrgOffset, prg16, hval, hbank, hbyte, hcount, prgBankSize, prgBanksShown]
    generalize m.control.toNat / 4 % 4 = mode at hmode
    interval_cases mode <;> interval_cases i <;> rfl
  | txrom m =>
    simp only [hm, prgCount, prgWindow] at hi ho ⊢
    have hval : (BitVec.ofNat 16 (0x8000 + i * 8192 + o)).toNat = 0x8000 + i * 8192 + o := Nat.mod_eq_of_lt (by omega)
    have hbank : (0x8000 + i * 8192 + o) / 8192 % 4 = i := by omega
    have hbyte : (0x8000 + i * 8192 + o) % 8192 = o := by omega
    have hcount : 16384 * s.cfg.cart.prgBanks / 8192 = 2 * s.cfg.cart.prgBanks := by omega
    have hswap := getLsbD_eq_div m.select 6
    have hlast : 2 * s.cfg.cart.prgBanks - 1 - 1 = 2 * s.cfg.cart.prgBanks - 2 := by omega
    simp only [prgOffset, hm, txPrgOffset, prg8, hval, hbank, hbyte, hcount, prgUnitSize, prgBanksShown, txPrgUnit, hswap, hlast]
    by_cases hsel : m.select.toNat / 64 % 2 = 0
    · interval_cases i <;> simp [hsel]
    · have hsel1 : m.select.toNat / 64 % 2 = 1 := by omega
      interval_cases i <;> simp [hsel1]

theorem prgWindow_pos (m : Mapper) : 0 < prgWindow m := by cases m <;> simp [prgWindow]

theorem prgCount_mul (m : Mapper) : prgCount m * prgWindow m = 32768 := by
  have sizes : prgCount m = 2 ∧ prgWindow m = 16384 ∨ prgCount m = 4 ∧ prgWindow m = 8192 := by cases m <;> simp [prgCount, prgWindow]
  rcases sizes with ⟨hc, hw⟩ | ⟨hc, hw⟩ <;> rw [hc, hw]

/-! The PPU side -/

/-- How many windows a mapper's CHR view has. -/
def chrCount : Mapper → Nat
  | .nrom => 1
  | .sxrom _ => 2
  | .txrom _ => 8

theorem chrWindow_pos (m : Mapper) : 0 < chrWindow m := by cases m <;> simp [chrWindow]

theorem chrCount_mul (m : Mapper) : chrCount m * chrWindow m = 8192 := by
  have sizes : chrCount m = 1 ∧ chrWindow m = 8192 ∨ chrCount m = 2 ∧ chrWindow m = 4096 ∨ chrCount m = 8 ∧ chrWindow m = 1024 := by
    cases m <;> simp [chrCount, chrWindow]
  rcases sizes with ⟨hc, hw⟩ | ⟨hc, hw⟩ | ⟨hc, hw⟩ <;> rw [hc, hw]

theorem chrBanksShown_length (m : Mapper) : (chrBanksShown m).length = chrCount m := by
  cases m with
  | nrom => rfl
  | sxrom m => simp only [chrBanksShown]; split <;> rfl
  | txrom m => simp only [chrBanksShown]; split <;> rfl

theorem chrView_eq (s : State) :
    chrView s = (List.range (chrCount s.mapper)).map fun i =>
      (0 + i * chrWindow s.mapper, chrWindow s.mapper, chrOffset s (BitVec.ofNat 16 (0 + i * chrWindow s.mapper))) := by
  cases hm : s.mapper <;> simp [chrView, hm, chrCount, chrWindow, List.range_succ]

/-- The place in the CHR data, before the modulo, of byte `o` of window `i` (R464, R481, R501). -/
def chrPlace (s : State) (a : Addr) : Nat :=
  match s.mapper with
  | .nrom => a.toNat
  | .sxrom m => sxChrOffset m a
  | .txrom m => txChrOffset m a

theorem chrPlace_eq {s : State} {i o : Nat} (hi : i < chrCount s.mapper) (ho : o < chrWindow s.mapper) :
    chrPlace s (BitVec.ofNat 16 (i * chrWindow s.mapper + o)) =
      (chrBanksShown s.mapper).getD i 0 * chrWindow s.mapper + o := by
  cases hm : s.mapper with
  | nrom =>
    simp only [hm, chrCount, chrWindow] at hi ho ⊢
    have hval : (BitVec.ofNat 16 (i * 8192 + o)).toNat = i * 8192 + o := Nat.mod_eq_of_lt (by omega)
    simp only [chrPlace, hm, hval]
    interval_cases i
    rfl
  | sxrom m =>
    simp only [hm, chrCount, chrWindow] at hi ho ⊢
    have hval : (BitVec.ofNat 16 (i * 4096 + o)).toNat = i * 4096 + o := Nat.mod_eq_of_lt (by omega)
    have hbyte : (i * 4096 + o) % 4096 = o := by omega
    have hmode : m.control.toNat / 16 < 2 := by have := m.control.isLt; omega
    simp only [chrPlace, hm, sxChrOffset, hval, hbyte, chrBanksShown]
    by_cases h8 : m.control.toNat / 16 = 0
    · have hbit : m.control.getLsbD 4 = false := by
        rw [getLsbD_eq_div, decide_eq_false_iff_not]
        omega
      simp only [h8, hbit, Bool.false_eq_true, if_false, if_true]
      interval_cases i <;> simp only [List.getD_cons_zero, List.getD_cons_succ] <;> omega
    · have hbit : m.control.getLsbD 4 = true := by
        rw [getLsbD_eq_div, decide_eq_true_iff]
        omega
      simp only [h8, hbit, if_false, if_true]
      interval_cases i
      · simp [ho]
      · simp
  | txrom m =>
    simp only [hm, chrCount, chrWindow] at hi ho ⊢
    have hval : (BitVec.ofNat 16 (i * 1024 + o)).toNat = i * 1024 + o := Nat.mod_eq_of_lt (by omega)
    have hbyte : (i * 1024 + o) % 1024 = o := by omega
    have hbank : (i * 1024 + o) / 1024 = i := by omega
    have hmode : m.select.toNat / 128 < 2 := by have := m.select.isLt; omega
    simp only [chrPlace, hm, txChrOffset, txChrBank, hval, hbyte, hbank, chrBanksShown]
    by_cases h0 : m.select.toNat / 128 = 0
    · have hbit : m.select.getLsbD 7 = false := by
        rw [getLsbD_eq_div, decide_eq_false_iff_not]
        omega
      simp only [h0, hbit, Bool.false_eq_true, if_false, if_true]
      interval_cases i <;> rfl
    · have hbit : m.select.getLsbD 7 = true := by
        rw [getLsbD_eq_div, decide_eq_true_iff]
        omega
      simp only [h0, hbit, if_false, if_true]
      interval_cases i <;> rfl

theorem chrOffset_eq {s : State} {i o : Nat} (hi : i < chrCount s.mapper) (ho : o < chrWindow s.mapper) :
    chrOffset s (BitVec.ofNat 16 (0 + i * chrWindow s.mapper + o)) =
      (chrBanksShown s.mapper).getD i 0 % (8192 * max s.cfg.cart.chrBanks 1 / chrWindow s.mapper) * chrWindow s.mapper + o := by
  have place : chrOffset s (BitVec.ofNat 16 (0 + i * chrWindow s.mapper + o)) =
      chrPlace s (BitVec.ofNat 16 (i * chrWindow s.mapper + o)) % (8192 * max s.cfg.cart.chrBanks 1) := by
    rw [Nat.zero_add]
    rfl
  have total : 8192 * max s.cfg.cart.chrBanks 1 =
      chrWindow s.mapper * (8192 * max s.cfg.cart.chrBanks 1 / chrWindow s.mapper) := by
    have divides : chrWindow s.mapper ∣ 8192 := Dvd.intro_left _ (chrCount_mul s.mapper)
    exact (Nat.mul_div_cancel' (divides.mul_right _)).symm
  rw [place, chrPlace_eq hi ho, total, bank_mod ho, ← total]

/-- A PPU address below $2000 is the pattern tables'. -/
theorem chrAddr_mask {a : Nat} (h : a < 0x2000) :
    BitVec.ofNat 16 a &&& 0x3FFF#16 = BitVec.ofNat 16 a ∧ BitVec.ofNat 16 a ≤ 0x1FFF#16 := by
  have hval : (BitVec.ofNat 16 a).toNat = a := Nat.mod_eq_of_lt (by omega)
  refine ⟨?_, by rw [BitVec.le_def, hval]; exact Nat.le_of_lt_succ h⟩
  apply BitVec.eq_of_toNat_eq
  rw [BitVec.toNat_and, hval, show (0x3FFF#16).toNat = 2 ^ 14 - 1 from rfl, Nat.and_two_pow_sub_one_eq_mod]
  omega

theorem ppuRead_at_chr {a : Nat} (h : a < 0x2000) (s : State) :
    ppuRead (BitVec.ofNat 16 a) s =
      Memory.read (if s.cfg.cart.chrBanks = 0 then s.chrRam else s.cfg.cart.chr) (chrOffset s (BitVec.ofNat 16 a)) := by
  obtain ⟨hmask, hlow⟩ := chrAddr_mask h
  rw [ppuRead, hmask, if_pos hlow]
  rfl

theorem ppuWrite_at_chr {a : Nat} (h : a < 0x2000) (v : Byte) (s : State) :
    ppuWrite (BitVec.ofNat 16 a) v s =
      if s.cfg.cart.chrBanks = 0 then { s with chrRam := Memory.write s.chrRam (chrOffset s (BitVec.ofNat 16 a)) v } else s := by
  obtain ⟨hmask, hlow⟩ := chrAddr_mask h
  rw [ppuWrite, hmask, if_pos hlow]
  rfl

/-- Windows of one size cover their span without a gap. -/
theorem window_cover {base count size a : Nat} (hsize : 0 < size) (hlow : base ≤ a) (hhigh : a < base + count * size) :
    ∃ i, i < count ∧ base + i * size ≤ a ∧ a < base + i * size + size := by
  refine ⟨(a - base) / size, ?_, ?_, ?_⟩
  · exact (Nat.div_lt_iff_lt_mul hsize).2 (by omega)
  · have := Nat.div_mul_le_self (a - base) size
    omega
  · have := Nat.lt_div_mul_add (a := a - base) hsize
    omega

/-- The first byte past the windows is past every window's. -/
theorem window_le {count size i o : Nat} (hi : i < count) (ho : o < size) : i * size + o < count * size := by
  calc i * size + o < i * size + size := by omega
    _ = (i + 1) * size := (Nat.succ_mul ..).symm
    _ ≤ count * size := Nat.mul_le_mul_right _ hi

/-- Settles O38: each window is its bank's place in the data, and what the buses read and write there is the byte at the offset. -/
theorem bankViewIsWhatIsRead : Obligations.BankViewIsWhatIsRead := by
  intro s
  refine ⟨fun _ => ?_, ?_, fun w hw o ho => ?_, fun w hw o ho => ?_, fun a hlow hhigh => ?_, fun a hhigh => ?_⟩
  · rw [prgView_eq, windows_eq, prgBanksShown_length]
    refine List.map_congr_left fun i hi => ?_
    have base := prgOffset_eq (List.mem_range.1 hi) (prgWindow_pos s.mapper)
    rw [Nat.add_zero, Nat.add_zero] at base
    rw [base]
  · rw [chrView_eq, windows_eq, chrBanksShown_length]
    refine List.map_congr_left fun i hi => ?_
    have base := chrOffset_eq (List.mem_range.1 hi) (chrWindow_pos s.mapper)
    rw [Nat.add_zero, Nat.add_zero] at base
    rw [base]
  · rw [prgView_eq] at hw
    obtain ⟨i, hi, rfl⟩ := List.mem_map.1 hw
    replace hi := List.mem_range.1 hi
    dsimp only at ho ⊢
    have base := prgOffset_eq hi (prgWindow_pos s.mapper)
    have span := window_le hi ho
    rw [prgCount_mul] at span
    rw [Nat.add_zero, Nat.add_zero] at base
    rw [peek_at_prg (by rw [BitVec.le_def, BitVec.toNat_ofNat, BitVec.toNat_ofNat]; omega), prgByte, prgOffset_eq hi ho, base]
  · rw [chrView_eq] at hw
    obtain ⟨i, hi, rfl⟩ := List.mem_map.1 hw
    replace hi := List.mem_range.1 hi
    dsimp only at ho ⊢
    have base := chrOffset_eq hi (chrWindow_pos s.mapper)
    have span := window_le hi ho
    rw [chrCount_mul] at span
    rw [Nat.add_zero, Nat.add_zero] at base
    have below : 0 + i * chrWindow s.mapper + o < 0x2000 := by omega
    rw [ppuRead_at_chr below, chrOffset_eq hi ho, base]
    refine ⟨rfl, fun v => ?_⟩
    rw [ppuWrite_at_chr below, chrOffset_eq hi ho]
  · obtain ⟨i, hi, hle, hlt⟩ := window_cover (count := prgCount s.mapper) (prgWindow_pos s.mapper) hlow (by rw [prgCount_mul]; omega)
    exact ⟨_, by rw [prgView_eq]; exact List.mem_map_of_mem (List.mem_range.2 hi), hle, hlt⟩
  · obtain ⟨i, hi, hle, hlt⟩ := window_cover (base := 0) (count := chrCount s.mapper) (chrWindow_pos s.mapper) (Nat.zero_le a)
      (by rw [chrCount_mul]; omega)
    exact ⟨_, by rw [chrView_eq]; exact List.mem_map_of_mem (List.mem_range.2 hi), hle, hlt⟩

end Sys2Proof.Machine
end

section
/-! Reset, the host's turn and loading a file (70_reset_and_hazards.md R560 to R562, 10_state.md R65 to R68, 50_bus_devices.md R345,
52_mappers.md R451, R455). -/

namespace Sys2Proof.Machine

open Sys2Proof.Vocab

/-! Reset -/

/-- A reset's PC is the word of the reset vector in the PRG data. -/
theorem warmReset_eq (s : State) :
    warmReset s =
      { resetRegisters s with
        pc := wordOf (prgByte (resetRegisters s) 0xFFFD#16) (prgByte (resetRegisters s) 0xFFFC#16) } := by
  have read := read16_of_quiet (a := resetVector) (quiet_of_cartridge (by decide)) (quiet_next_of_cartridge (by decide)) (resetRegisters s)
  rw [warmReset, read, peek_at_prg (by decide), peek_at_prg (by decide)]
  rfl

/-- The last bytes of the PRG data stand at the end of the address space after a reset. -/
theorem prgOffset_last {s : State} (hmapper : s.mapper = mapperReset s.cfg.cart.mapper) (hbanks : 1 ≤ s.cfg.cart.prgBanks)
    (hnrom : s.cfg.cart.mapper = .nrom → s.cfg.cart.prgBanks ≤ 2) {k : Nat} (hk : 0 < k ∧ k ≤ 8192) :
    prgOffset s (BitVec.ofNat 16 (0x10000 - k)) = 16384 * s.cfg.cart.prgBanks - k := by
  have hval : (BitVec.ofNat 16 (0x10000 - k)).toNat = 0x10000 - k := Nat.mod_eq_of_lt (by omega)
  have hbank16 : (0x10000 - k) / 16384 % 2 = 1 := by omega
  have hbyte16 : (0x10000 - k) % 16384 = 16384 - k := by omega
  have hbank8 : (0x10000 - k) / 8192 % 4 = 3 := by omega
  have hbyte8 : (0x10000 - k) % 8192 = 8192 - k := by omega
  cases hkind : s.cfg.cart.mapper with
  | nrom =>
    have hm : s.mapper = .nrom := hmapper.trans (by rw [hkind]; rfl)
    have two := hnrom hkind
    have last : 1 % s.cfg.cart.prgBanks = s.cfg.cart.prgBanks - 1 := by interval_cases s.cfg.cart.prgBanks <;> rfl
    simp only [prgOffset, hm, nromPrgOffset, prg16, hval, hbank16, hbyte16, last, prgBankSize]
    omega
  | sxrom =>
    have hm : s.mapper = .sxrom SxRegs.reset := hmapper.trans (by rw [hkind]; rfl)
    have last : (s.cfg.cart.prgBanks - 1) % s.cfg.cart.prgBanks = s.cfg.cart.prgBanks - 1 := Nat.mod_eq_of_lt (by omega)
    have mode : SxRegs.reset.control.toNat / 4 % 4 = 3 := rfl
    simp only [prgOffset, hm, sxPrgOffset, prg16, hval, hbank16, hbyte16, mode, last, prgBankSize]
    simp
    omega
  | txrom =>
    have hm : s.mapper = .txrom TxRegs.reset := hmapper.trans (by rw [hkind]; rfl)
    have last : (2 * s.cfg.cart.prgBanks - 1) % (2 * s.cfg.cart.prgBanks) = 2 * s.cfg.cart.prgBanks - 1 := Nat.mod_eq_of_lt (by omega)
    simp only [prgOffset, hm, txPrgOffset, prg8, hval, hbank8, hbyte8, txPrgUnit, last, prgUnitSize]
    omega

/-- Settles O39: after power-up the last bytes of the address space are those of the PRG data. -/
theorem resetVectorComesFromTheLastBank : Obligations.ResetVectorComesFromTheLastBank := by
  rintro l ⟨⟨⟨hbanks, -⟩, -⟩, -⟩ hnrom
  have byte {k : Nat} (hk : 0 < k ∧ k ≤ 8192) {s : State} (hs : s.cfg = l.cfg) :
      prgByte (resetRegisters s) (BitVec.ofNat 16 (0x10000 - k)) = Memory.read l.cfg.cart.prg (16384 * l.cfg.cart.prgBanks - k) := by
    have last := prgOffset_last (s := resetRegisters s) rfl (hs ▸ hbanks) (fun h => hs ▸ hnrom (hs ▸ h)) hk
    rw [prgByte, last]
    show Memory.read s.cfg.cart.prg (16384 * s.cfg.cart.prgBanks - k) = _
    rw [hs]
  have pc := congrArg State.pc (warmReset_eq { State.reset with cfg := l.cfg, ram := l.ramInit, wram := l.wramInit, chrRam := [] })
  exact pc.trans (congrArg₂ wordOf (byte (k := 3) (by decide) rfl) (byte (k := 4) (by decide) rfl))

theorem hostOp_withScript (o : HostOp) (s : State) (script : List (List HostOp)) :
    hostOp o { s with host := { s.host with script := script } } =
      { hostOp o s with host := { (hostOp o s).host with script := script } } := by
  cases o with
  | reset =>
    simp only [hostOp]
    rw [warmReset_eq, warmReset_eq]
    rfl
  | setButtons | pullIrq | pullNmi | grabFrameDone => rfl

/-- Settles O59: reset writes its table of values and reads the vector; the host's operations are equations of the model. -/
theorem resetValues : Obligations.ResetValues := by
  refine ⟨fun s => ?_, fun l => ?_, fun s b => ⟨rfl, rfl, rfl, rfl, rfl⟩, fun s o ops rest => ⟨fun h => ?_, fun h => ?_, fun h => ?_⟩,
    fun s t h => ?_⟩
  · have vector : (warmReset s).pc = wordOf (peek 0xFFFD#16 (warmReset s)) (peek 0xFFFC#16 (warmReset s)) := by
      rw [warmReset_eq, peek_withPc 0xFFFD#16 _ (resetRegisters s), peek_withPc 0xFFFC#16 _ (resetRegisters s),
        peek_at_prg (by decide), peek_at_prg (by decide)]
    have frame {row col : Nat} (hrow : row < 240) (hcol : col < 256) : pixel (warmReset s) row col = Memory.read s.cfg.colours 0 := by
      have drawn : (warmReset s).ppu.fb = Memory.fill fbSize (colour s.cfg 0#6) := by rw [warmReset_eq]; rfl
      rw [pixel, drawn, Memory.read_fill _ (by unfold fbIndex fbSize; omega)]
      rfl
    dsimp only
    rw [warmReset_eq] at vector frame ⊢
    refine ⟨⟨rfl, rfl, rfl, rfl, rfl, rfl, rfl, rfl, rfl, vector⟩, ⟨rfl, rfl, rfl, rfl, rfl⟩, ⟨rfl, rfl, rfl⟩,
      ⟨rfl, rfl, rfl, rfl, rfl, rfl, rfl, rfl, rfl, rfl, rfl, rfl, rfl, rfl, rfl, rfl, rfl, rfl, rfl, rfl, rfl, rfl, rfl, rfl, rfl, rfl,
        rfl, rfl, fun _ _ => frame⟩, rfl, ?_⟩
    show mapperReset s.cfg.cart.mapper = _
    cases s.cfg.cart.mapper <;> rfl
  · have image := warmReset_eq { State.reset with cfg := l.cfg, ram := l.ramInit, wram := l.wramInit, chrRam := [] }
    exact ⟨congrArg State.ram image, congrArg State.wram image, congrArg State.chrRam image, congrArg State.cfg image, _, rfl⟩
  · simp only [hostTurn, h]
  · simp only [hostTurn, h]
    rfl
  · simp only [hostTurn, h, hostOps, List.foldl_cons, hostOp_withScript]
  · obtain ⟨u, hu, hstep⟩ := tick_answers (hostTurn s)
    obtain rfl := Host.Outcome.next.inj (hu.symm.trans h)
    exact hstep

/-! Loading a file -/

theorem mapperNumber_eq (file : List Byte) :
    mapperNumber file = (fileByte file 7).toNat / 16 * 16 + (fileByte file 6).toNat / 16 := by
  have high : (fileByte file 7 &&& 0xF0#8).toNat = (fileByte file 7).toNat / 16 * 16 := by
    have field := toNat_and_field (fileByte file 7) 4 4
    have := (fileByte file 7).isLt
    simp only [Nat.reducePow, Nat.reduceSub, Nat.reduceMul] at field
    omega
  have low : (fileByte file 6 >>> 4).toNat = (fileByte file 6).toNat / 16 := by
    rw [BitVec.toNat_ushiftRight, Nat.shiftRight_eq_div_pow]
  have := (fileByte file 6).isLt
  rw [mapperNumber, toNat_or_of_lt 4 (by omega) (by omega), high, low]

theorem mapperOfNumber_eq_some {n : Nat} : (∃ k, mapperOfNumber n = some k) ↔ n = 0 ∨ n = 1 ∨ n = 4 := by
  unfold mapperOfNumber
  split <;> simp_all

/-- A list stored from an address on reads back, byte by byte. -/
theorem read_ofList {w : Nat} (vs : List (BitVec w)) (a o : Nat) : Memory.read (Memory.ofList a vs) (a + o) = vs.getD o 0#w := by
  have below (a : Nat) (vs : List (BitVec w)) : Memory.read (Memory.ofList (a + 1) vs) a = 0#w :=
    Memory.read_below fun c hc => ((Memory.ofList_bounds vs (a + 1)).2 c hc).1
  induction vs generalizing a o with
  | nil => simp [Memory.ofList]
  | cons v vs ih =>
    cases o with
    | zero =>
      by_cases hv : v = 0#w
      · simp [Memory.ofList, hv, below]
      · simp [Memory.ofList, hv, Memory.read]
    | succ o =>
      have next := ih (a + 1) o
      rw [show a + 1 + o = a + (o + 1) by omega] at next
      by_cases hv : v = 0#w
      · simp [Memory.ofList, hv, next]
      · simp [Memory.ofList, hv, Memory.read, next]

/-- A part of a file, stored from address 0 on. -/
theorem read_filePart (file : List Byte) (start n : Nat) {o : Nat} (ho : o < n) :
    Memory.read (Memory.ofList 0 ((file.drop start).take n)) o = fileByte file (start + o) := by
  have part := read_ofList ((file.drop start).take n) 0 o
  rw [Nat.zero_add] at part
  rw [part, fileByte, List.getD_eq_getElem?_getD, List.getElem?_take, if_pos ho, List.getElem?_drop, List.getD_eq_getElem?_getD]

/-- The file's size as its header says (R451). -/
def headerSize (file : List Byte) : Nat := prgFileOffset file + prgFileSize file + chrFileSize file

theorem loadFile_good {file : List Byte} {kind : MapperKind} (hmagic : file.take 4 = [0x4E#8, 0x45#8, 0x53#8, 0x1A#8])
    (h9 : fileByte file 9 = 0#8) (hkind : mapperOfNumber (mapperNumber file) = some kind) (h4 : fileByte file 4 ≠ 0#8)
    (hsize : headerSize file ≤ file.length) (ramInit wramInit : Memory 8) (colours : Memory 24) :
    loadFile file ramInit wramInit colours =
      .next (powerUp { cfg := { cart := cartOfFile file kind, colours := colours }, ramInit := ramInit, wramInit := wramInit }) := by
  have long : ¬ file.length < prgFileOffset file + prgFileSize file + chrFileSize file := Nat.not_lt.2 hsize
  simp only [loadFile, hmagic, h9, hkind, h4, long, ne_eq, not_true, if_false]

/-- What `load` answers with a refusal, it refuses for one of five reasons; what it loads has a good header. -/
theorem loadFile_cases (file : List Byte) (ramInit wramInit : Memory 8) (colours : Memory 24) :
    (∃ kind, file.take 4 = [0x4E#8, 0x45#8, 0x53#8, 0x1A#8] ∧ fileByte file 9 = 0#8 ∧ mapperOfNumber (mapperNumber file) = some kind ∧
      fileByte file 4 ≠ 0#8 ∧ headerSize file ≤ file.length) ∨
    ∃ r, loadFile file ramInit wramInit colours = .refused r ∧
      (r = .badMagic ∨ r = .headerByte9 ∨ r = .unknownMapper (mapperNumber file) ∨ r = .noPrgBanks ∨ r = .shortFile) := by
  by_cases hmagic : file.take 4 = [0x4E#8, 0x45#8, 0x53#8, 0x1A#8]
  swap
  · exact .inr ⟨.badMagic, by simp [loadFile, hmagic], by simp⟩
  by_cases h9 : fileByte file 9 = 0#8
  swap
  · exact .inr ⟨.headerByte9, by simp [loadFile, hmagic, h9], by simp⟩
  cases hkind : mapperOfNumber (mapperNumber file) with
  | none => exact .inr ⟨.unknownMapper (mapperNumber file), by simp [loadFile, hmagic, h9, hkind], by simp⟩
  | some kind =>
  by_cases h4 : fileByte file 4 = 0#8
  · exact .inr ⟨.noPrgBanks, by simp [loadFile, hmagic, h9, hkind, h4], by simp⟩
  by_cases hsize : headerSize file ≤ file.length
  · exact .inl ⟨kind, hmagic, h9, rfl, h4, hsize⟩
  · have short : file.length < prgFileOffset file + prgFileSize file + chrFileSize file := Nat.lt_of_not_le hsize
    exact .inr ⟨.shortFile, by simp [loadFile, hmagic, h9, hkind, h4, short], by simp⟩

/-- The cartridge of a file with a PRG bank is well formed, whatever the file's bytes. -/
theorem cartOfFile_wf {file : List Byte} (h4 : fileByte file 4 ≠ 0#8) (kind : MapperKind) : (cartOfFile file kind).wf := by
  have byte (k : Nat) : (fileByte file k).toNat ≤ 255 := Nat.le_of_lt_succ (fileByte file k).isLt
  have nonzero {k : Nat} (h : fileByte file k ≠ 0#8) : 1 ≤ (fileByte file k).toNat := by bv_omega
  refine ⟨⟨nonzero h4, byte 4⟩, byte 5, ?_, ?_, Memory.wf_ofList _ (List.length_take_le ..), Memory.wf_ofList _ (List.length_take_le ..)⟩
  · simp only [cartOfFile]
    (repeat' split) <;> rfl
  · simp only [cartOfFile]
    split
    · decide
    next h8 => exact ⟨nonzero h8, byte 8⟩

theorem mapperOfNumber_kind {n : Nat} {k : MapperKind} (h : mapperOfNumber n = some k) :
    (n = 0 → k = .nrom) ∧ (n = 1 → k = .sxrom) ∧ (n = 4 → k = .txrom) := by
  refine ⟨?_, ?_, ?_⟩ <;> rintro rfl <;> exact (Option.some.inj h).symm

/-- Settles O60: `load` decides on the header, and the cartridge's bytes are the parts of the file. -/
theorem loadRefusesExactlyTheBadFiles : Obligations.LoadRefusesExactlyTheBadFiles := by
  intro file ramInit wramInit colours
  dsimp only
  rw [← mapperNumber_eq]
  have outcome := loadFile_cases file ramInit wramInit colours
  refine ⟨⟨fun ⟨t, ht⟩ => ?_, fun ⟨hmagic, h9, hnumber, h4, hsize⟩ => ?_⟩, fun t ht => ?_, fun r hr => ?_⟩
  · rcases outcome with ⟨kind, hmagic, h9, hkind, h4, hsize⟩ | ⟨r, hr, -⟩
    · exact ⟨hmagic, h9, mapperOfNumber_eq_some.1 ⟨kind, hkind⟩, h4, hsize⟩
    · cases ht.symm.trans hr
  · obtain ⟨kind, hkind⟩ := mapperOfNumber_eq_some.2 hnumber
    exact ⟨_, loadFile_good hmagic h9 hkind h4 hsize ..⟩
  · rcases outcome with ⟨kind, hmagic, h9, hkind, h4, hsize⟩ | ⟨r, hr, -⟩
    · obtain rfl := Host.Outcome.next.inj (ht.symm.trans (loadFile_good hmagic h9 hkind h4 hsize ..))
      obtain ⟨hnrom, hsxrom, htxrom⟩ := mapperOfNumber_kind hkind
      exact ⟨cartOfFile file kind, rfl, cartOfFile_wf h4 kind, rfl, rfl, rfl, rfl, rfl, rfl, hnrom, hsxrom, htxrom,
        fun o ho => read_filePart file _ _ ho, fun o ho => read_filePart file _ _ ho⟩
    · cases ht.symm.trans hr
  · rcases outcome with ⟨kind, hmagic, h9, hkind, h4, hsize⟩ | ⟨r', hr', hreason⟩
    · cases hr.symm.trans (loadFile_good hmagic h9 hkind h4 hsize ..)
    · obtain rfl := Host.Outcome.refused.inj (hr.symm.trans hr')
      exact hreason

end Sys2Proof.Machine
end

section
/-! The PPU's registers and its memories through the two buses (51_ppu.md R350 to R362, 20_memory.md R99 to R103). -/

namespace Sys2Proof.Machine

open Sys2Proof.Vocab

/-! Bit fields -/

/-- Bits `j` to `j + m - 1` of a number. -/
def field (v j m : Nat) : Nat := v / 2 ^ j % 2 ^ m

/-- Equal bits make equal fields. -/
theorem field_ext {v u j m : Nat} (h : ∀ i < m, v.testBit (j + i) = u.testBit (j + i)) : field v j m = field u j m := by
  apply Nat.eq_of_testBit_eq
  intro i
  rw [field, field, Nat.testBit_mod_two_pow, Nat.testBit_mod_two_pow, Nat.testBit_div_two_pow, Nat.testBit_div_two_pow]
  by_cases hi : i < m
  · rw [Nat.add_comm i j, h i hi]
  · simp [hi]

theorem getLsbD_blend {w : Nat} (mask new old : BitVec w) (i : Nat) :
    (blend mask new old).getLsbD i = if mask.getLsbD i then new.getLsbD i else old.getLsbD i := by
  by_cases hi : i < w
  · cases hm : mask.getLsbD i <;> simp only [blend, BitVec.getLsbD_or, BitVec.getLsbD_and, BitVec.getLsbD_not, hm, hi] <;> simp
  · simp only [BitVec.getLsbD_of_ge _ _ (Nat.le_of_not_lt hi), ite_self]

/-- A field inside the mask of a blend is the new value's (10_state.md R64). -/
theorem field_blend_new {w : Nat} {mask : BitVec w} {j m : Nat} (h : ∀ i < m, mask.getLsbD (j + i) = true) (new old : BitVec w) :
    field (blend mask new old).toNat j m = field new.toNat j m := by
  refine field_ext fun i hi => ?_
  have bit := getLsbD_blend mask new old (j + i)
  rwa [h i hi] at bit

/-- A field outside it is the old value's. -/
theorem field_blend_old {w : Nat} {mask : BitVec w} {j m : Nat} (h : ∀ i < m, mask.getLsbD (j + i) = false) (new old : BitVec w) :
    field (blend mask new old).toNat j m = field old.toNat j m := by
  refine field_ext fun i hi => ?_
  have bit := getLsbD_blend mask new old (j + i)
  rwa [h i hi] at bit

/-- The fields of the scroll registers (10_state.md R46). -/
theorem scroll_fields (v : BitVec 15) :
    coarseX v = field v.toNat 0 5 ∧ coarseY v = field v.toNat 5 5 ∧ tableX v = field v.toNat 10 1 ∧ tableY v = field v.toNat 11 1 ∧
      fineY v = field v.toNat 12 3 := by
  have := v.isLt
  refine ⟨?_, rfl, rfl, rfl, ?_⟩
  · simp [coarseX, field]
  · simp only [fineY, field]
    omega

/-! The ports -/

/-- A port of the PPU: register `i` at one of its mirrors (R350). -/
def portAt (i : Nat) (a : Addr) : Prop := 0x2000#16 ≤ a ∧ a ≤ 0x3FFF#16 ∧ a.toNat % 8 = i

theorem memRead_port {i : Nat} {a : Addr} (h : portAt i a) (s : State) : memRead a s = ppuRegRead i s := by
  obtain ⟨hlow, hhigh, hreg⟩ := h
  rw [memRead_at_ppu hlow hhigh, hreg]

theorem memWrite_port {i : Nat} {a : Addr} (h : portAt i a) (v : Byte) (s : State) : memWrite a v s = ppuRegWrite i v s := by
  obtain ⟨hlow, hhigh, hreg⟩ := h
  rw [memWrite_at_ppu hlow hhigh, hreg]

/-- A byte taken to 15 bits and shifted. -/
theorem wide_toNat (d : Byte) :
    (d.setWidth 15).toNat = d.toNat ∧ (d.setWidth 15 >>> 3).toNat = d.toNat / 8 ∧ ((d.setWidth 15 >>> 3) <<< 5).toNat = d.toNat / 8 * 32 ∧
      (d.setWidth 15 <<< 12).toNat = d.toNat % 8 * 4096 ∧ (d.setWidth 15 <<< 10).toNat = d.toNat % 32 * 1024 := by
  have := d.isLt
  simp only [BitVec.toNat_setWidth, BitVec.toNat_ushiftRight, BitVec.toNat_shiftLeft, Nat.shiftRight_eq_div_pow, Nat.shiftLeft_eq]
  refine ⟨by omega, by omega, by omega, by omega, by omega⟩

/-- The first write of PPUSCROLL puts its byte's high five bits in coarse X of `t` (R357). -/
theorem scrollFirst_fields (d : Byte) (t : BitVec 15) :
    let u := blend 0x001F#15 (d.setWidth 15 >>> 3) t
    coarseX u = d.toNat / 8 ∧ coarseY u = coarseY t ∧ tableX u = tableX t ∧ tableY u = tableY t ∧ fineY u = fineY t := by
  intro u
  have := d.isLt
  obtain ⟨-, hx, -⟩ := wide_toNat d
  obtain ⟨ex, ey, eh, ev, ef⟩ := scroll_fields t
  obtain ⟨ux, uy, uh, uv, uf⟩ := scroll_fields u
  have new : field u.toNat 0 5 = field (d.setWidth 15 >>> 3).toNat 0 5 := field_blend_new (by decide) ..
  rw [ux, uy, uh, uv, uf, ey, eh, ev, ef, new, hx]
  refine ⟨?_, field_blend_old (by decide) .., field_blend_old (by decide) .., field_blend_old (by decide) .., field_blend_old (by decide) ..⟩
  rw [field]
  omega

/-- The second puts its byte in coarse Y and fine Y of `t` (R357). -/
theorem scrollSecond_fields (d : Byte) (t : BitVec 15) :
    let u := blend 0x03E0#15 ((d.setWidth 15 >>> 3) <<< 5) (blend 0x7000#15 (d.setWidth 15 <<< 12) t)
    coarseX u = coarseX t ∧ coarseY u = d.toNat / 8 ∧ tableX u = tableX t ∧ tableY u = tableY t ∧ fineY u = d.toNat % 8 := by
  intro u
  have := d.isLt
  obtain ⟨-, -, hy, hf, -⟩ := wide_toNat d
  obtain ⟨ex, ey, eh, ev, ef⟩ := scroll_fields t
  obtain ⟨ux, uy, uh, uv, uf⟩ := scroll_fields u
  have old {j m : Nat} (h : ∀ i < m, (0x03E0#15).getLsbD (j + i) = false) (h' : ∀ i < m, (0x7000#15).getLsbD (j + i) = false) :
      field u.toNat j m = field t.toNat j m := (field_blend_old h ..).trans (field_blend_old h' ..)
  have newY : field u.toNat 5 5 = field ((d.setWidth 15 >>> 3) <<< 5).toNat 5 5 := field_blend_new (by decide) ..
  have newF : field u.toNat 12 3 = field (d.setWidth 15 <<< 12).toNat 12 3 :=
    (field_blend_old (by decide) ..).trans (field_blend_new (by decide) ..)
  rw [ux, uy, uh, uv, uf, ex, eh, ev, newY, newF, hy, hf]
  refine ⟨old (by decide) (by decide), ?_, old (by decide) (by decide), old (by decide) (by decide), ?_⟩
  · rw [field]
    omega
  · rw [field]
    omega

/-- PPUCTRL's low two bits are the nametable of `t` (R352). -/
theorem ctrl_fields (d : Byte) (t : BitVec 15) :
    let u := blend 0x0C00#15 (d.setWidth 15 <<< 10) t
    tableX u = d.toNat % 2 ∧ tableY u = d.toNat / 2 % 2 ∧ coarseX u = coarseX t ∧ coarseY u = coarseY t ∧ fineY u = fineY t := by
  intro u
  obtain ⟨-, -, -, -, hn⟩ := wide_toNat d
  obtain ⟨ex, ey, eh, ev, ef⟩ := scroll_fields t
  obtain ⟨ux, uy, uh, uv, uf⟩ := scroll_fields u
  have newX : field u.toNat 10 1 = field (d.setWidth 15 <<< 10).toNat 10 1 := field_blend_new (by decide) ..
  have newY : field u.toNat 11 1 = field (d.setWidth 15 <<< 10).toNat 11 1 := field_blend_new (by decide) ..
  rw [ux, uy, uh, uv, uf, ex, ey, ef, newX, newY, hn]
  refine ⟨?_, ?_, field_blend_old (by decide) .., field_blend_old (by decide) .., field_blend_old (by decide) ..⟩
  · rw [field]
    omega
  · rw [field]
    omega

/-- A write of PPUADDR puts its low six bits above the low byte of `t`, or its byte in place of it (R358). -/
theorem addr_blend (d : Byte) (t : BitVec 15) :
    blend 0x7F00#15 ((d.setWidth 15 &&& 0x003F#15) <<< 8) t = BitVec.ofNat 15 (d.toNat % 64 * 256 + t.toNat % 256) ∧
    blend 0x00FF#15 (d.setWidth 15) t = BitVec.ofNat 15 (t.toNat / 256 * 256 + d.toNat) := by
  have hd := d.isLt
  have ht := t.isLt
  have split (u : BitVec 15) : u.toNat = field u.toNat 8 7 * 256 + field u.toNat 0 8 := by
    have := u.isLt
    simp only [field]
    omega
  have high : ((d.setWidth 15 &&& 0x003F#15) <<< 8).toNat = d.toNat % 64 * 256 := by
    have masked := toNat_and_field (d.setWidth 15) 0 6
    simp only [Nat.reducePow, Nat.reduceSub, (wide_toNat d).1, Nat.div_one, Nat.mul_one] at masked
    rw [BitVec.toNat_shiftLeft, masked, Nat.shiftLeft_eq]
    omega
  constructor
  · apply BitVec.eq_of_toNat_eq
    rw [split, field_blend_new (by decide), field_blend_old (by decide), high, BitVec.toNat_ofNat]
    simp only [field]
    omega
  · apply BitVec.eq_of_toNat_eq
    rw [split, field_blend_new (j := 0) (by decide), field_blend_old (j := 8) (by decide), (wide_toNat d).1, BitVec.toNat_ofNat]
    simp only [field]
    omega

theorem scrollWrite_first {s : State} (hw : s.ppu.w = false) (d : Byte) :
    scrollWrite d s =
      { s with ppu := { s.ppu with t := blend 0x001F#15 (d.setWidth 15 >>> 3) s.ppu.t, x := d.setWidth 3, w := true } } := by
  rw [scrollWrite, if_neg (by rw [hw]; decide)]

theorem scrollWrite_second {s : State} (hw : s.ppu.w = true) (d : Byte) :
    scrollWrite d s =
      { s with ppu := { s.ppu with
          t := blend 0x03E0#15 ((d.setWidth 15 >>> 3) <<< 5) (blend 0x7000#15 (d.setWidth 15 <<< 12) s.ppu.t), w := false } } := by
  rw [scrollWrite, if_pos hw]

theorem addrWrite_first {s : State} (hw : s.ppu.w = false) (d : Byte) :
    addrWrite d s =
      { s with ppu := { s.ppu with t := BitVec.ofNat 15 (d.toNat % 64 * 256 + s.ppu.t.toNat % 256), w := true } } := by
  rw [addrWrite, if_neg (by rw [hw]; decide), (addr_blend d _).1]

theorem addrWrite_second {s : State} (hw : s.ppu.w = true) (d : Byte) :
    addrWrite d s =
      { s with ppu := { s.ppu with
          t := BitVec.ofNat 15 (s.ppu.t.toNat / 256 * 256 + d.toNat), v := BitVec.ofNat 15 (s.ppu.t.toNat / 256 * 256 + d.toNat),
          w := false } } := by
  rw [addrWrite, if_pos hw, (addr_blend d _).2]

/-- Settles O48: every port is its register at any mirror, and the fields of `t` are those of a blend. -/
theorem ppuPortsSetTheirRegisters : Obligations.PpuPortsSetTheirRegisters := by
  intro s port d e hport
  have write (i : Nat) (hi : i < 8) (v : Byte) (u : State) : memWrite (port i) v u = ppuRegWrite i v u := memWrite_port (hport i hi) v u
  have read (i : Nat) (hi : i < 8) (u : State) : memRead (port i) u = ppuRegRead i u := memRead_port (hport i hi) u
  have scroll (v : Byte) (u : State) : memWrite (port 5) v u = scrollWrite v u := write 5 (by decide) v u
  have addr (v : Byte) (u : State) : memWrite (port 6) v u = addrWrite v u := write 6 (by decide) v u
  refine ⟨?_, write 1 (by decide) .., write 2 (by decide) .., write 3 (by decide) .., ?_, fun hw => ?_, fun hw => ?_, ?_, ?_, ?_⟩
  · dsimp only
    rw [write 0 (by decide)]
    exact ⟨rfl, ctrl_fields d s.ppu.t⟩
  · dsimp only
    rw [write 4 (by decide), read 4 (by decide)]
    refine ⟨rfl, fun k => ?_, rfl⟩
    have same : k.toNat = s.ppu.oamaddr.toNat ↔ k = s.ppu.oamaddr := BitVec.toNat_inj ..
    show Memory.read (Memory.write s.ppu.oam s.ppu.oamaddr.toNat d) k.toNat = _
    rw [Memory.read_write]
    simp only [same]
  · dsimp only
    rw [scroll, scroll, scrollWrite_first hw, scrollWrite_second rfl]
    obtain ⟨x1, y1, h1, v1, f1⟩ := scrollFirst_fields d s.ppu.t
    obtain ⟨x2, y2, h2, v2, f2⟩ := scrollSecond_fields e (blend 0x001F#15 (d.setWidth 15 >>> 3) s.ppu.t)
    exact ⟨by rw [← hw], x2.trans x1, y2, f2, h2.trans h1, v2.trans v1⟩
  · rw [addr, addr, addrWrite_first hw, addrWrite_second rfl]
    have high : (BitVec.ofNat 15 (d.toNat % 64 * 256 + s.ppu.t.toNat % 256)).toNat / 256 * 256 = d.toNat % 64 * 256 := by
      rw [BitVec.toNat_ofNat]
      omega
    simp only [high]
    rw [← hw]
  · dsimp only
    rw [scroll]
    cases hw : s.ppu.w with
    | false =>
      rw [scrollWrite_first hw]
      obtain ⟨x1, y1, h1, v1, f1⟩ := scrollFirst_fields d s.ppu.t
      exact ⟨rfl, x1, y1, f1, h1, v1⟩
    | true =>
      rw [scrollWrite_second hw]
      obtain ⟨x2, y2, h2, v2, f2⟩ := scrollSecond_fields d s.ppu.t
      exact ⟨rfl, x2, y2, f2, h2, v2⟩
  · dsimp only
    rw [addr]
    cases hw : s.ppu.w with
    | false => exact addrWrite_first hw d
    | true => exact addrWrite_second hw d
  · intro i hi
    have below : i < 8 := by simp at hi; omega
    rw [read i below]
    simp only [List.mem_cons, List.not_mem_nil, or_false] at hi
    rcases hi with rfl | rfl | rfl | rfl | rfl <;> rfl

/-! The PPU's memories -/

/-- A PPU address of 14 bits is not masked. -/
theorem ppuAddr_mask {a : Nat} (h : a < 0x4000) :
    (BitVec.ofNat 16 a).toNat = a ∧ BitVec.ofNat 16 a &&& 0x3FFF#16 = BitVec.ofNat 16 a := by
  have hval : (BitVec.ofNat 16 a).toNat = a := Nat.mod_eq_of_lt (by omega)
  refine ⟨hval, BitVec.eq_of_toNat_eq ?_⟩
  rw [BitVec.toNat_and, hval, show (0x3FFF#16).toNat = 2 ^ 14 - 1 from rfl, Nat.and_two_pow_sub_one_eq_mod]
  omega

theorem ppuRead_at_nt {a : Nat} (hlow : 0x2000 ≤ a) (hhigh : a < 0x3F00) (s : State) :
    ppuRead (BitVec.ofNat 16 a) s = ntRead (BitVec.ofNat 16 a) s := by
  obtain ⟨hval, hmask⟩ := ppuAddr_mask (a := a) (by omega)
  rw [ppuRead, hmask, if_neg (by bv_omega), if_pos (by bv_omega)]

theorem ppuWrite_at_nt {a : Nat} (hlow : 0x2000 ≤ a) (hhigh : a < 0x3F00) (v : Byte) (s : State) :
    ppuWrite (BitVec.ofNat 16 a) v s = ntWrite (BitVec.ofNat 16 a) v s := by
  obtain ⟨hval, hmask⟩ := ppuAddr_mask (a := a) (by omega)
  rw [ppuWrite, hmask, if_neg (by bv_omega), if_pos (by bv_omega)]

theorem ppuRead_at_palette {a : Nat} (hlow : 0x3F00 ≤ a) (hhigh : a < 0x4000) (s : State) :
    ppuRead (BitVec.ofNat 16 a) s = (Memory.read s.ppu.palette (palIndex (BitVec.ofNat 16 a))).setWidth 8 := by
  obtain ⟨hval, hmask⟩ := ppuAddr_mask (a := a) (by omega)
  rw [ppuRead, hmask, if_neg (by bv_omega), if_neg (by bv_omega)]

theorem ppuWrite_at_palette {a : Nat} (hlow : 0x3F00 ≤ a) (hhigh : a < 0x4000) (v : Byte) (s : State) :
    ppuWrite (BitVec.ofNat 16 a) v s =
      { s with ppu := { s.ppu with palette := Memory.write s.ppu.palette (palIndex (BitVec.ofNat 16 a)) (v.setWidth 6) } } := by
  obtain ⟨hval, hmask⟩ := ppuAddr_mask (a := a) (by omega)
  rw [ppuWrite, hmask, if_neg (by bv_omega), if_neg (by bv_omega)]

/-- The byte of a nametable cell: a physical page and an offset in it (R102). -/
def cellRead (c : Nat × Nat) (s : State) : Byte :=
  if c.1 < 2 then Memory.read s.ppu.nt (c.1 * 1024 + c.2) else Memory.read s.ppu.ntExt ((c.1 - 2) * 1024 + c.2)

theorem ntCell_eq {a : Nat} (h : a < 0x4000) (s : State) :
    (ntPage s (BitVec.ofNat 16 a), ntOffset (BitVec.ofNat 16 a)) = ntCell s.mirroring a := by
  have hn : a / 1024 % 4 < 4 := Nat.mod_lt _ (by decide)
  rw [ntPage, ntOffset, ntCell, (ppuAddr_mask h).1]
  generalize a / 1024 % 4 = n at hn
  cases s.mirroring <;> interval_cases n <;> rfl

theorem ntCell_offset (m : Mirroring) (a : Nat) : (ntCell m a).2 < 1024 := Nat.mod_lt _ (by decide)

theorem ntRead_eq {a : Nat} (h : a < 0x4000) (s : State) : ntRead (BitVec.ofNat 16 a) s = cellRead (ntCell s.mirroring a) s := by
  rw [← ntCell_eq h]
  rfl

/-- A write of one nametable cell, read at another. -/
theorem cellRead_ntWrite {a : Nat} (h : a < 0x4000) (v : Byte) (s : State) {c : Nat × Nat} (hc : c.2 < 1024) :
    cellRead c (ntWrite (BitVec.ofNat 16 a) v s) = if c = ntCell s.mirroring a then v else cellRead c s := by
  obtain ⟨p, o⟩ := c
  rcases hq : ntCell s.mirroring a with ⟨q, r⟩
  have hr : r < 1024 := by simpa [hq] using ntCell_offset s.mirroring a
  have cell := ntCell_eq h s
  rw [hq, Prod.mk.injEq] at cell
  simp only [ntWrite, cell.1, cell.2, cellRead, Prod.mk.injEq] at hc ⊢
  by_cases hp2 : p < 2 <;> by_cases hq2 : q < 2
  · have same : p * 1024 + o = q * 1024 + r ↔ p = q ∧ o = r := by omega
    simp only [hp2, hq2, if_true, Memory.read_write, same]
  · have other : ¬(p = q ∧ o = r) := by omega
    simp only [hp2, hq2, if_true, if_false, other]
  · have other : ¬(p = q ∧ o = r) := by omega
    simp only [hp2, hq2, if_true, if_false, other]
  · have same : (p - 2) * 1024 + o = (q - 2) * 1024 + r ↔ p = q ∧ o = r := by omega
    simp only [hp2, hq2, if_false, Memory.read_write, same]

theorem palIndex_eq {a : Nat} (h : a < 0x4000) : palIndex (BitVec.ofNat 16 a) = palCell a := by
  have hlt : a % 32 < 32 := Nat.mod_lt _ (by decide)
  rw [palIndex, palCell, (ppuAddr_mask h).1]
  generalize a % 32 = i at hlt
  interval_cases i <;> rfl

theorem paletteByte (v : Byte) : (v.setWidth 6).setWidth 8 = v &&& 0x3F#8 := by
  revert v
  decide

/-- Settles O50: a write and a read of one cell, of the mirrored nametables and of the palette. -/
theorem ppuMemoriesMirror : Obligations.PpuMemoriesMirror := by
  intro s a b v
  refine ⟨fun ha ha' hb hb' => ?_, fun ha ha' hb hb' => ?_⟩
  · have kept : (ntWrite (BitVec.ofNat 16 a) v s).mirroring = s.mirroring := by
      unfold ntWrite
      dsimp only
      split <;> rfl
    rw [ppuWrite_at_nt ha ha', ppuRead_at_nt hb hb', ppuRead_at_nt hb hb', ntRead_eq (by omega), ntRead_eq (by omega), kept,
      cellRead_ntWrite (by omega) v s (ntCell_offset ..)]
  · rw [ppuWrite_at_palette ha ha', ppuRead_at_palette hb hb', ppuRead_at_palette hb hb', palIndex_eq ha', palIndex_eq hb',
      ← paletteByte v]
    show (Memory.read (Memory.write s.ppu.palette (palCell a) (v.setWidth 6)) (palCell b)).setWidth 8 = _
    rw [Memory.read_write]
    split <;> rfl

/-! PPUDATA -/

theorem vramAddr_eq (s : State) : vramAddr s = BitVec.ofNat 16 (s.ppu.v.toNat % 16384) := by
  have hv := s.ppu.v.isLt
  apply BitVec.eq_of_toNat_eq
  rw [vramAddr, BitVec.toNat_and, BitVec.toNat_setWidth, show (0x3FFF#16).toNat = 2 ^ 14 - 1 from rfl,
    Nat.and_two_pow_sub_one_eq_mod, BitVec.toNat_ofNat]
  omega

/-- The PPU's bus does not see `v` and the read buffer. -/
theorem ppuRead_vramInc (a : Addr) (s : State) : ppuRead a (vramInc s) = ppuRead a s := rfl

/-- What a PPUDATA read leaves, whatever it buffers. -/
theorem vramInc_buffered (b : Byte) (s : State) :
    vramInc { s with ppu := { s.ppu with readbuf := b } } =
      { s with ppu := { s.ppu with v := s.ppu.v + (if s.ppu.ctrl.getLsbD 2 then 32#15 else 1#15), readbuf := b } } := rfl

/-- A PPUDATA read below the palette takes the buffer and fills it. -/
theorem dataRead_below {s : State} (h : s.ppu.v.toNat % 16384 < 0x3F00) :
    dataRead s =
      (s.ppu.readbuf, vramInc { s with ppu := { s.ppu with readbuf := ppuRead (BitVec.ofNat 16 (s.ppu.v.toNat % 16384)) s } }) := by
  have below : BitVec.ofNat 16 (s.ppu.v.toNat % 16384) < 0x3F00#16 := by
    rw [BitVec.lt_def, (ppuAddr_mask (by omega)).1]
    exact h
  rw [dataRead, vramAddr_eq, if_pos below]

/-- One of the palette reads it at once, and buffers the byte below. -/
theorem dataRead_palette {s : State} (h : 0x3F00 ≤ s.ppu.v.toNat % 16384) :
    dataRead s =
      (ppuRead (BitVec.ofNat 16 (s.ppu.v.toNat % 16384)) s,
        vramInc { s with ppu := { s.ppu with readbuf := ppuRead (BitVec.ofNat 16 (s.ppu.v.toNat % 16384 - 0x1000)) s } }) := by
  have hlt : s.ppu.v.toNat % 16384 < 16384 := Nat.mod_lt _ (by decide)
  have above : ¬ BitVec.ofNat 16 (s.ppu.v.toNat % 16384) < 0x3F00#16 := by
    rw [BitVec.lt_def, (ppuAddr_mask hlt).1]
    exact Nat.not_lt.2 h
  have lower : BitVec.ofNat 16 (s.ppu.v.toNat % 16384) - 0x1000#16 = BitVec.ofNat 16 (s.ppu.v.toNat % 16384 - 0x1000) := by
    apply BitVec.eq_of_toNat_eq
    rw [BitVec.toNat_sub, BitVec.toNat_ofNat, BitVec.toNat_ofNat, BitVec.toNat_ofNat]
    omega
  rw [dataRead, vramAddr_eq, if_neg above, lower]

/-- Settles O49: a read is one of two cases by the address, a write is the PPU bus's, and `v` advances after either. -/
theorem ppuDataReadsAreBufferedAndWritesStore : Obligations.PpuDataReadsAreBufferedAndWritesStore := by
  intro s port again d hport hagain
  have hlt : s.ppu.v.toNat % 16384 < 0x4000 := Nat.mod_lt _ (by decide)
  have read : memRead port s = dataRead s := memRead_port hport s
  have reread (u : State) : peek again u = (dataRead u).1 := congrArg Prod.fst (memRead_port hagain u)
  have write : memWrite port d s = vramInc (ppuWrite (BitVec.ofNat 16 (s.ppu.v.toNat % 16384)) d s) := by
    rw [memWrite_port hport, ← vramAddr_eq]
    rfl
  dsimp only
  rw [read, write, reread]
  refine ⟨?_, fun h => ?_, fun h hnext => ?_, fun h => ?_, ?_, ?_, fun h h' => ?_, fun h => ?_, fun h hchr => ?_, fun h hchr => ?_⟩
  · rcases Nat.lt_or_ge (s.ppu.v.toNat % 16384) 0x3F00 with h | h
    · rw [dataRead_below h, vramInc_buffered]
    · rw [dataRead_palette h, vramInc_buffered]
  · rw [dataRead_below h]
    exact ⟨rfl, rfl⟩
  · rw [dataRead_below h]
    exact congrArg Prod.fst (dataRead_below (s := vramInc { s with ppu := { s.ppu with
      readbuf := ppuRead (BitVec.ofNat 16 (s.ppu.v.toNat % 16384)) s } }) hnext)
  · rw [dataRead_palette h]
    exact ⟨rfl, rfl⟩
  · have kept := ppuWrite_ppu (BitVec.ofNat 16 (s.ppu.v.toNat % 16384)) d s
    rw [vramInc, kept]
  · have kept := ppuWrite_ppu (BitVec.ofNat 16 (s.ppu.v.toNat % 16384)) d s
    rw [vramInc, kept]
  · rw [ppuRead_vramInc, (ppuMemoriesMirror s _ _ d).1 h h' h h', if_pos rfl]
  · rw [ppuRead_vramInc, (ppuMemoriesMirror s _ _ d).2 h hlt h hlt, if_pos rfl]
  · rw [ppuRead_vramInc, ppuWrite_at_chr h, ppuRead_at_chr h, if_pos hchr]
    show Memory.read (if s.cfg.cart.chrBanks = 0 then _ else _) _ = d
    rw [if_pos hchr]
    exact Memory.read_write_same ..
  · have rom : s.cfg.cart.chrBanks ≠ 0 := Nat.ne_of_gt hchr
    rw [ppuWrite_at_chr h, if_neg rom, vramInc]

end Sys2Proof.Machine
end

section
/-! The events of a dot, and the background pipeline dot by dot (51_ppu.md R371 to R374, R380, R390 to R399). -/

namespace Sys2Proof.Machine

open Sys2Proof.Vocab

/-! The events -/

/-- What only the events of a position write. -/
def statusView (p : Ppu) : Bool × Bool := (p.vblank, p.frameDone)

theorem spriteStep_statusView (line d : Nat) (s : State) : statusView (spriteStep line d s).ppu = statusView s.ppu := by
  unfold spriteStep
  split
  · obtain ⟨l, o, he, -⟩ := spriteEval_frame line s.ppu
    rw [he]
    rfl
  · (repeat' split) <;> rfl

theorem dotWork_statusView (line d : Nat) (s : State) : statusView (dotWork line d s).ppu = statusView (dotEvents line d s).ppu :=
  let k := fun t : State => statusView t.ppu
  calc k (dotWork line d s)
    _ = _ := ite_keeps k _ (spriteStep_statusView line d _)
    _ = _ := ite_keeps k _ rfl
    _ = k (dotEvents line d s) := ite_keeps k _ (congrArg statusView (bgStep_exceptBackground line d _) :)

theorem ppuDot_statusView (s : State) :
    statusView (ppuDot s).ppu = statusView (dotEvents s.ppu.scanline s.ppu.dot s).ppu := by
  rw [ppuDot_ppu, advance_frame]
  exact dotWork_statusView ..

/-- Settles O51: the vblank flag, `frame_done` and the NMI latch are what the events of the position leave. -/
theorem vblankStartRaisesNmiAndNothingElseDoes : Obligations.VblankStartRaisesNmiAndNothingElseDoes := by
  intro s
  have status := ppuDot_statusView s
  have nmi := ppuDot_nmiPending s
  refine ⟨fun hline hdot => ?_, fun hother => ?_⟩
  · have bit : s.ppu.ctrl.getLsbD 7 = decide (128 ≤ s.ppu.ctrl.toNat) := by
      have := s.ppu.ctrl.isLt
      rw [getLsbD_eq_div, decide_eq_decide]
      omega
    have events : dotEvents s.ppu.scanline s.ppu.dot s = vblankStart s := if_pos ⟨hline, hdot⟩
    rw [events, statusView, Prod.mk.injEq] at status
    rw [events] at nmi
    exact ⟨status.1, status.2, nmi.trans (by rw [← bit]; rfl)⟩
  · by_cases hclear : s.ppu.scanline = 261 ∧ s.ppu.dot = 1
    · have events : dotEvents s.ppu.scanline s.ppu.dot s = flagsClear s := by rw [dotEvents, if_neg hother, if_pos hclear]
      rw [events, statusView, Prod.mk.injEq] at status
      rw [events] at nmi
      exact ⟨nmi, status.2, fun h => absurd hclear h⟩
    · have events : dotEvents s.ppu.scanline s.ppu.dot s = s := by rw [dotEvents, if_neg hother, if_neg hclear]
      rw [events, statusView, Prod.mk.injEq] at status
      rw [events] at nmi
      exact ⟨nmi, status.2, fun _ => status.1⟩

/-! The background pipeline's registers -/

/-- A shift register after the shift and the reload of a dot (R391, R392). -/
def shiftReload (d : Nat) (low : Byte) (r : BitVec 16) : BitVec 16 :=
  let r := if isShiftDot d then r <<< 1 else r
  if isReloadDot d then reloadLow low r else r

theorem reloadLow_toNat (low : Byte) (r : BitVec 16) : (reloadLow low r).toNat = r.toNat / 256 * 256 + low.toNat := by
  have hr := r.isLt
  have hlow := low.isLt
  have high := toNat_and_field r 8 8
  simp only [Nat.reducePow, Nat.reduceSub, Nat.reduceMul] at high
  have wide : (low.setWidth 16).toNat = low.toNat := by
    rw [BitVec.toNat_setWidth]
    omega
  rw [reloadLow, toNat_or_of_lt 8 (by omega) (by omega), high, wide]
  omega

/-- The model's shift and reload are those of the statement, in numbers. -/
theorem shiftReload_toNat (d : Nat) (low : Byte) (r : BitVec 16) : (shiftReload d low r).toNat = shifted d low.toNat r := by
  have hshift : isShiftDot d = true ↔ (2 ≤ d ∧ d ≤ 257) ∨ (322 ≤ d ∧ d ≤ 337) := by simp [isShiftDot]
  have hreload : isReloadDot d = true ↔ d % 8 = 1 ∧ (9 ≤ d ∧ d ≤ 257 ∨ d = 329 ∨ d = 337) := by simp [isReloadDot, or_assoc]
  have double : (r <<< 1).toNat = 2 * r.toNat % 65536 := by
    rw [BitVec.toNat_shiftLeft, Nat.shiftLeft_eq]
    omega
  unfold shiftReload shifted
  simp only [hshift, hreload]
  split <;> split <;> simp only [reloadLow_toNat, double]

theorem spread_toNat (b : BitVec 2) :
    (spread (b.getLsbD 0)).toNat = 255 * (b.toNat % 2) ∧ (spread (b.getLsbD 1)).toNat = 255 * (b.toNat / 2) := by
  revert b
  decide

/-- The state after the shift and the reload of a dot. -/
def afterShift (d : Nat) (s : State) : State :=
  setPpu { s.ppu with
    shPatLo := shiftReload d s.ppu.bgLo s.ppu.shPatLo, shPatHi := shiftReload d s.ppu.bgHi s.ppu.shPatHi,
    shAtLo := shiftReload d (spread (s.ppu.bgAt.getLsbD 0)) s.ppu.shAtLo,
    shAtHi := shiftReload d (spread (s.ppu.bgAt.getLsbD 1)) s.ppu.shAtHi } s

/-- `BgStep` is the shift and the reload, then a fetch, then the scroll (R390). -/
theorem bgStep_eq (line d : Nat) (s : State) :
    bgStep line d s =
      (fun t => setPpu (bgScroll line d t.ppu) t) (if isFetchDot d then bgFetch d (afterShift d s) else afterShift d s) := by
  have shifted : afterShift d s =
      (fun t => if isReloadDot d then setPpu (reloadBg t.ppu) t else t) (if isShiftDot d then setPpu (shiftBg s.ppu) s else s) := by
    unfold afterShift shiftReload
    cases isShiftDot d <;> cases isReloadDot d <;> rfl
  rw [shifted]
  rfl

/-- The shift registers. -/
def shifters (p : Ppu) : BitVec 16 × BitVec 16 × BitVec 16 × BitVec 16 := (p.shPatLo, p.shPatHi, p.shAtLo, p.shAtHi)

/-- The fetch latches. -/
def latches (p : Ppu) : Byte × BitVec 2 × Byte × Byte := (p.bgNt, p.bgAt, p.bgLo, p.bgHi)

theorem bgScroll_keeps (line d : Nat) (p : Ppu) : shifters (bgScroll line d p) = shifters p ∧ latches (bgScroll line d p) = latches p := by
  rw [bgScroll_frame]
  exact ⟨rfl, rfl⟩

theorem bgFetch_shifters (d : Nat) (s : State) : shifters (bgFetch d s).ppu = shifters s.ppu := by
  unfold bgFetch
  split <;> rfl

theorem bgStep_shifters (line d : Nat) (s : State) : shifters (bgStep line d s).ppu = shifters (afterShift d s).ppu := by
  rw [bgStep_eq]
  exact (bgScroll_keeps line d _).1.trans (ite_keeps (fun t : State => shifters t.ppu) _ (bgFetch_shifters d _))

/-- The latch that a fetch dot fills, by its place in the group of eight (R390, R393). -/
theorem bgFetch_latches {d : Nat} (hd : 1 ≤ d) (s : State) :
    latches (bgFetch d s).ppu =
      (if d % 8 = 1 then ppuRead (ntFetchAddr s.ppu.v) s else s.ppu.bgNt,
        if d % 8 = 3 then atSelect s.ppu.v (ppuRead (atFetchAddr s.ppu.v) s) else s.ppu.bgAt,
        if d % 8 = 5 then ppuRead (patFetchAddr s.ppu) s else s.ppu.bgLo,
        if d % 8 = 7 then ppuRead (patFetchAddr s.ppu ||| 0x0008#16) s else s.ppu.bgHi) := by
  have hplace : d % 8 = ((d - 1) % 8 + 1) % 8 := by omega
  have hlt : (d - 1) % 8 < 8 := Nat.mod_lt _ (by decide)
  unfold bgFetch
  rw [hplace]
  generalize (d - 1) % 8 = k at hlt
  interval_cases k <;> rfl

theorem bgFetch_v {d : Nat} (hd : 1 ≤ d) (s : State) : (bgFetch d s).ppu.v = if d % 8 = 0 then incX s.ppu.v else s.ppu.v := by
  have hplace : d % 8 = ((d - 1) % 8 + 1) % 8 := by omega
  have hlt : (d - 1) % 8 < 8 := Nat.mod_lt _ (by decide)
  unfold bgFetch
  rw [hplace]
  generalize (d - 1) % 8 = k at hlt
  interval_cases k <;> rfl

/-- The registers that no part of the pipeline writes. -/
theorem bgFetch_t (d : Nat) (s : State) : (bgFetch d s).ppu.t = s.ppu.t := by
  unfold bgFetch
  split <;> rfl

theorem isFetchDot_iff (d : Nat) : isFetchDot d = true ↔ fetches d := by simp [isFetchDot, fetches]

theorem bgStep_latches_fetch {d : Nat} (h : fetches d) (line : Nat) (s : State) :
    latches (bgStep line d s).ppu =
      (if d % 8 = 1 then ppuRead (ntFetchAddr s.ppu.v) s else s.ppu.bgNt,
        if d % 8 = 3 then atSelect s.ppu.v (ppuRead (atFetchAddr s.ppu.v) s) else s.ppu.bgAt,
        if d % 8 = 5 then ppuRead (patFetchAddr s.ppu) s else s.ppu.bgLo,
        if d % 8 = 7 then ppuRead (patFetchAddr s.ppu ||| 0x0008#16) s else s.ppu.bgHi) := by
  have hd : 1 ≤ d := by unfold fetches at h; omega
  rw [bgStep_eq, if_pos ((isFetchDot_iff d).2 h)]
  exact (bgScroll_keeps line d _).2.trans (bgFetch_latches hd (afterShift d s))

theorem bgStep_latches_other {d : Nat} (h : ¬ fetches d) (line : Nat) (s : State) : latches (bgStep line d s).ppu = latches s.ppu := by
  rw [bgStep_eq, if_neg (mt (isFetchDot_iff d).1 h)]
  exact (bgScroll_keeps line d _).2

/-- `v` after the fetch of a dot (R390, R394). -/
def fetchedV (d : Nat) (v : BitVec 15) : BitVec 15 := if isFetchDot d ∧ d % 8 = 0 then incX v else v

/-- `v` after the scroll of a dot (R390, R395 to R397). -/
def scrolledV (line d : Nat) (t v : BitVec 15) : BitVec 15 :=
  if d = 256 then incY v else if d = 257 then copyX t v else if line = 261 ∧ 280 ≤ d ∧ d ≤ 304 then copyY t v else v

/-- `v` after a dot of the pipeline: the coarse X of the last dot of a group, then the scroll. -/
theorem bgStep_v (line d : Nat) (s : State) :
    (bgStep line d s).ppu.v = scrolledV line d s.ppu.t (fetchedV d s.ppu.v) := by
  have fetched : (if isFetchDot d = true then bgFetch d (afterShift d s) else afterShift d s).ppu.v = fetchedV d s.ppu.v ∧
      (if isFetchDot d = true then bgFetch d (afterShift d s) else afterShift d s).ppu.t = s.ppu.t := by
    by_cases hd : isFetchDot d = true
    · have h1 : 1 ≤ d := by have := (isFetchDot_iff d).1 hd; unfold fetches at this; omega
      simp only [fetchedV, hd, if_true, true_and, bgFetch_v h1, bgFetch_t]
      exact ⟨rfl, rfl⟩
    · rw [if_neg hd, fetchedV, if_neg fun h => hd h.1]
      exact ⟨rfl, rfl⟩
  rw [bgStep_eq, ← fetched.1, ← fetched.2]
  unfold bgScroll scrolledV
  simp only [setPpu_ppu]
  (repeat' split) <;> rfl

/-! The pipeline in a dot -/

/-- Everything that the background pipeline reads of the scroll registers and writes. -/
def background (p : Ppu) :
    (BitVec 16 × BitVec 16 × BitVec 16 × BitVec 16) × (Byte × BitVec 2 × Byte × Byte) × BitVec 15 × BitVec 15 × BitVec 3 × Bool :=
  (shifters p, latches p, p.v, p.t, p.x, p.w)

theorem spriteStep_background (line d : Nat) (s : State) : background (spriteStep line d s).ppu = background s.ppu := by
  unfold spriteStep
  split
  · obtain ⟨l, o, he, -⟩ := spriteEval_frame line s.ppu
    rw [he]
    rfl
  · (repeat' split) <;> rfl

/-- Of the work of a dot, the pipeline alone writes the background. -/
theorem ppuDot_background (s : State) :
    background (ppuDot s).ppu =
      background (if (s.ppu.scanline ≤ 239 ∨ s.ppu.scanline = 261) ∧ rendering s.ppu then
        bgStep s.ppu.scanline s.ppu.dot (dotEvents s.ppu.scanline s.ppu.dot s) else dotEvents s.ppu.scanline s.ppu.dot s).ppu := by
  let k := fun t : State => background t.ppu
  rw [ppuDot_ppu, advance_frame]
  calc background (dotWork s.ppu.scanline s.ppu.dot s).ppu
    _ = _ := ite_keeps k _ (spriteStep_background _ _ _)
    _ = _ := ite_keeps k _ rfl

/-- The events change flags, which no fetch sees. -/
theorem dotEvents_unseen (line d : Nat) (s : State) :
    background (dotEvents line d s).ppu = background s.ppu ∧ (dotEvents line d s).ppu.bgNt = s.ppu.bgNt ∧
      patFetchAddr (dotEvents line d s).ppu = patFetchAddr s.ppu ∧ ∀ a, ppuRead a (dotEvents line d s) = ppuRead a s := by
  unfold dotEvents
  split
  · exact ⟨rfl, rfl, rfl, fun _ => rfl⟩
  split
  · exact ⟨rfl, rfl, rfl, fun _ => rfl⟩
  · exact ⟨rfl, rfl, rfl, fun _ => rfl⟩

/-! The scroll increments and reloads, on the fields of `v` -/

/-- The fields of a scroll register, and the register of fields. -/
theorem fields_toNat (v : BitVec 15) :
    v.toNat = coarseX v + 32 * coarseY v + 1024 * tableX v + 2048 * tableY v + 4096 * fineY v ∧
      coarseX v < 32 ∧ coarseY v < 32 ∧ tableX v < 2 ∧ tableY v < 2 ∧ fineY v < 8 := by
  have := v.isLt
  simp only [coarseX, coarseY, tableX, tableY, fineY]
  omega

theorem field_and_keep {w : Nat} {mask : BitVec w} {j m : Nat} (h : ∀ i < m, mask.getLsbD (j + i) = true) (v : BitVec w) :
    field (v &&& mask).toNat j m = field v.toNat j m := by
  refine field_ext fun i hi => ?_
  have bit := BitVec.getLsbD_and (x := v) (y := mask) (i := j + i)
  rwa [h i hi, Bool.and_true] at bit

theorem field_and_clear {w : Nat} {mask : BitVec w} {j m : Nat} (h : ∀ i < m, mask.getLsbD (j + i) = false) (v : BitVec w) :
    field (v &&& mask).toNat j m = 0 := by
  have zero : field (v &&& mask).toNat j m = field 0 j m := by
    refine field_ext fun i hi => ?_
    have bit := BitVec.getLsbD_and (x := v) (y := mask) (i := j + i)
    rw [h i hi, Bool.and_false] at bit
    rw [Nat.zero_testBit]
    exact bit
  rw [zero, field, Nat.zero_div, Nat.zero_mod]

theorem field_xor_keep {w : Nat} {mask : BitVec w} {j m : Nat} (h : ∀ i < m, mask.getLsbD (j + i) = false) (v : BitVec w) :
    field (v ^^^ mask).toNat j m = field v.toNat j m := by
  refine field_ext fun i hi => ?_
  have bit := BitVec.getLsbD_xor (x := v) (y := mask) (i := j + i)
  rwa [h i hi, Bool.xor_false] at bit

theorem field_one {w : Nat} (v : BitVec w) (j : Nat) : field v.toNat j 1 = (v.getLsbD j).toNat := by
  rw [field, BitVec.getLsbD, Nat.toNat_testBit, pow_one]

theorem field_xor_flip {w : Nat} {mask : BitVec w} {j : Nat} (h : mask.getLsbD j = true) (v : BitVec w) :
    field (v ^^^ mask).toNat j 1 = 1 - field v.toNat j 1 := by
  rw [field_one, field_one, BitVec.getLsbD_xor, h]
  cases v.getLsbD j <;> rfl

/-- The comparisons of `IncX()` and `IncY()`. -/
theorem coarseX_full (v : BitVec 15) : v &&& 0x001F#15 = 0x001F#15 ↔ coarseX v = 31 := by
  have masked := toNat_and_field v 0 5
  simp only [Nat.reducePow, Nat.reduceSub, Nat.div_one, Nat.mul_one] at masked
  rw [← BitVec.toNat_inj, masked]
  rfl

theorem fineY_full (v : BitVec 15) : v &&& 0x7000#15 = 0x7000#15 ↔ fineY v = 7 := by
  have masked := toNat_and_field v 12 3
  have := v.isLt
  simp only [Nat.reducePow, Nat.reduceSub, Nat.reduceMul] at masked
  rw [← BitVec.toNat_inj, masked, fineY]
  simp only [BitVec.toNat_ofNat]
  omega

theorem coarseY_is (v : BitVec 15) {c : Nat} (hc : c < 32) : v &&& 0x03E0#15 = BitVec.ofNat 15 (c * 32) ↔ coarseY v = c := by
  have masked := toNat_and_field v 5 5
  simp only [Nat.reducePow, Nat.reduceSub, Nat.reduceMul] at masked
  rw [← BitVec.toNat_inj, masked, coarseY]
  simp only [BitVec.toNat_ofNat]
  omega

theorem incX_fields (v : BitVec 15) :
    coarseX (incX v) = (coarseX v + 1) % 32 ∧ tableX (incX v) = (if coarseX v = 31 then 1 - tableX v else tableX v) ∧
      coarseY (incX v) = coarseY v ∧ tableY (incX v) = tableY v ∧ fineY (incX v) = fineY v := by
  by_cases hfull : coarseX v = 31
  · have wrapped : incX v = (v &&& 0x7FE0#15) ^^^ 0x0400#15 := if_pos ((coarseX_full v).2 hfull)
    obtain ⟨-, ey, eh, ev, ef⟩ := scroll_fields v
    obtain ⟨ux, uy, uh, uv, uf⟩ := scroll_fields ((v &&& 0x7FE0#15) ^^^ 0x0400#15)
    rw [wrapped, ux, uy, uh, uv, uf, if_pos hfull, hfull, ey, eh, ev, ef]
    exact ⟨(field_xor_keep (by decide) _).trans (field_and_clear (by decide) _),
      (field_xor_flip (by decide) _).trans (congrArg (1 - ·) (field_and_keep (by decide) _)),
      (field_xor_keep (by decide) _).trans (field_and_keep (by decide) _), (field_xor_keep (by decide) _).trans (field_and_keep (by decide) _),
      (field_xor_keep (by decide) _).trans (field_and_keep (by decide) _)⟩
  · have next : incX v = v + 0x0001#15 := if_neg (mt (coarseX_full v).1 hfull)
    have hv := v.isLt
    have hadd : (v + 0x0001#15).toNat = v.toNat + 1 := by
      rw [BitVec.toNat_add]
      simp only [coarseX, BitVec.toNat_ofNat] at hfull ⊢
      omega
    rw [next, if_neg hfull]
    simp only [coarseX, coarseY, tableX, tableY, fineY, hadd] at hfull ⊢
    omega

theorem clearFineY_fields (v : BitVec 15) :
    coarseX (v &&& 0x0FFF#15) = coarseX v ∧ coarseY (v &&& 0x0FFF#15) = coarseY v ∧ tableX (v &&& 0x0FFF#15) = tableX v ∧
      tableY (v &&& 0x0FFF#15) = tableY v ∧ fineY (v &&& 0x0FFF#15) = 0 := by
  obtain ⟨ex, ey, eh, ev, -⟩ := scroll_fields v
  obtain ⟨ux, uy, uh, uv, uf⟩ := scroll_fields (v &&& 0x0FFF#15)
  rw [ux, uy, uh, uv, uf, ex, ey, eh, ev]
  exact ⟨field_and_keep (by decide) _, field_and_keep (by decide) _, field_and_keep (by decide) _, field_and_keep (by decide) _,
    field_and_clear (by decide) _⟩

theorem clearCoarseY_fields (v : BitVec 15) :
    coarseX (v &&& 0x7C1F#15) = coarseX v ∧ coarseY (v &&& 0x7C1F#15) = 0 ∧ tableX (v &&& 0x7C1F#15) = tableX v ∧
      tableY (v &&& 0x7C1F#15) = tableY v ∧ fineY (v &&& 0x7C1F#15) = fineY v := by
  obtain ⟨ex, -, eh, ev, ef⟩ := scroll_fields v
  obtain ⟨ux, uy, uh, uv, uf⟩ := scroll_fields (v &&& 0x7C1F#15)
  rw [ux, uy, uh, uv, uf, ex, eh, ev, ef]
  exact ⟨field_and_keep (by decide) _, field_and_clear (by decide) _, field_and_keep (by decide) _, field_and_keep (by decide) _,
    field_and_keep (by decide) _⟩

theorem flipTableY_fields (v : BitVec 15) :
    coarseX (v ^^^ 0x0800#15) = coarseX v ∧ coarseY (v ^^^ 0x0800#15) = coarseY v ∧ tableX (v ^^^ 0x0800#15) = tableX v ∧
      tableY (v ^^^ 0x0800#15) = 1 - tableY v ∧ fineY (v ^^^ 0x0800#15) = fineY v := by
  obtain ⟨ex, ey, eh, ev, ef⟩ := scroll_fields v
  obtain ⟨ux, uy, uh, uv, uf⟩ := scroll_fields (v ^^^ 0x0800#15)
  rw [ux, uy, uh, uv, uf, ex, ey, eh, ev, ef]
  exact ⟨field_xor_keep (by decide) _, field_xor_keep (by decide) _, field_xor_keep (by decide) _, field_xor_flip (by decide) _,
    field_xor_keep (by decide) _⟩

/-- `IncY()` at the last row of a tile, on the register with fine Y cleared (R395). -/
theorem incY_full {v : BitVec 15} (h : fineY v = 7) :
    incY v =
      if coarseY v = 29 then (v &&& 0x0FFF#15 &&& 0x7C1F#15) ^^^ 0x0800#15
      else if coarseY v = 31 then v &&& 0x0FFF#15 &&& 0x7C1F#15 else (v &&& 0x0FFF#15) + 0x0020#15 := by
  have is29 := (coarseY_is (v &&& 0x0FFF#15) (c := 29) (by decide))
  have is31 := (coarseY_is (v &&& 0x0FFF#15) (c := 31) (by decide))
  rw [(clearFineY_fields v).2.1] at is29 is31
  rw [incY, if_pos ((fineY_full v).2 h)]
  simp only [Nat.reduceMul] at is29 is31
  simp only [is29, is31]

theorem incY_fields (v : BitVec 15) :
    fineY (incY v) = (fineY v + 1) % 8 ∧ coarseX (incY v) = coarseX v ∧ tableX (incY v) = tableX v ∧
      coarseY (incY v) = (if fineY v < 7 then coarseY v else if coarseY v = 29 ∨ coarseY v = 31 then 0 else coarseY v + 1) ∧
      tableY (incY v) = (if fineY v = 7 ∧ coarseY v = 29 then 1 - tableY v else tableY v) := by
  obtain ⟨hsum, hcx, hcy, htx, hty, hfy⟩ := fields_toNat v
  by_cases hfull : fineY v = 7
  · obtain ⟨fx, fy, fh, fv, ff⟩ := clearFineY_fields v
    obtain ⟨cx, cy, ch, cv, cf⟩ := clearCoarseY_fields (v &&& 0x0FFF#15)
    have last : ¬ fineY v < 7 := by omega
    rw [incY_full hfull, if_neg last, hfull]
    by_cases h29 : coarseY v = 29
    · obtain ⟨tx, ty, th, tv, tf⟩ := flipTableY_fields (v &&& 0x0FFF#15 &&& 0x7C1F#15)
      rw [if_pos h29, tx, ty, th, tv, tf, cx, cy, ch, cv, cf, fx, fh, fv, ff, if_pos (Or.inl h29), if_pos ⟨rfl, h29⟩]
      exact ⟨rfl, rfl, rfl, rfl, rfl⟩
    rw [if_neg h29, if_neg (c := 7 = 7 ∧ _) fun h => h29 h.2]
    by_cases h31 : coarseY v = 31
    · rw [if_pos h31, cx, cy, ch, cv, cf, fx, fh, fv, ff, if_pos (Or.inr h31)]
      exact ⟨rfl, rfl, rfl, rfl, rfl⟩
    · obtain ⟨hsum', -⟩ := fields_toNat (v &&& 0x0FFF#15)
      have hadd : ((v &&& 0x0FFF#15) + 0x0020#15).toNat = (v &&& 0x0FFF#15).toNat + 32 := by
        rw [BitVec.toNat_add, BitVec.toNat_ofNat]
        omega
      have inside : ¬(coarseY v = 29 ∨ coarseY v = 31) := by omega
      rw [if_neg h31, if_neg inside]
      simp only [coarseX, coarseY, tableX, tableY, fineY, hadd] at *
      omega
  · have next : incY v = v + 0x1000#15 := if_neg (mt (fineY_full v).1 hfull)
    have hadd : (v + 0x1000#15).toNat = v.toNat + 4096 := by
      rw [BitVec.toNat_add, BitVec.toNat_ofNat]
      omega
    have lt : fineY v < 7 := by omega
    rw [next, if_pos lt, if_neg fun h => hfull h.1]
    simp only [coarseX, coarseY, tableX, tableY, fineY, hadd] at hfull ⊢
    omega

theorem copyX_fields (t v : BitVec 15) :
    coarseX (copyX t v) = coarseX t ∧ tableX (copyX t v) = tableX t ∧
      coarseY (copyX t v) = coarseY v ∧ tableY (copyX t v) = tableY v ∧ fineY (copyX t v) = fineY v := by
  obtain ⟨tx, -, th, -, -⟩ := scroll_fields t
  obtain ⟨-, ey, -, ev, ef⟩ := scroll_fields v
  obtain ⟨ux, uy, uh, uv, uf⟩ := scroll_fields (copyX t v)
  rw [ux, uy, uh, uv, uf, tx, th, ey, ev, ef]
  exact ⟨field_blend_new (by decide) .., field_blend_new (by decide) .., field_blend_old (by decide) .., field_blend_old (by decide) ..,
    field_blend_old (by decide) ..⟩

theorem copyY_fields (t v : BitVec 15) :
    coarseY (copyY t v) = coarseY t ∧ tableY (copyY t v) = tableY t ∧ fineY (copyY t v) = fineY t ∧
      coarseX (copyY t v) = coarseX v ∧ tableX (copyY t v) = tableX v := by
  obtain ⟨-, ty, -, tv, tf⟩ := scroll_fields t
  obtain ⟨ex, -, eh, -, -⟩ := scroll_fields v
  obtain ⟨ux, uy, uh, uv, uf⟩ := scroll_fields (copyY t v)
  rw [ux, uy, uh, uv, uf, ty, tv, tf, ex, eh]
  exact ⟨field_blend_new (by decide) .., field_blend_new (by decide) .., field_blend_new (by decide) .., field_blend_old (by decide) ..,
    field_blend_old (by decide) ..⟩

/-- A dot with the pipeline at rest (R353, R380). -/
theorem ppuDot_rest {s : State} (h : rendering s.ppu = false ∨ ¬(s.ppu.scanline ≤ 239 ∨ s.ppu.scanline = 261)) :
    background (ppuDot s).ppu = background s.ppu := by
  have off : ¬((s.ppu.scanline ≤ 239 ∨ s.ppu.scanline = 261) ∧ rendering s.ppu = true) := by
    rintro ⟨hline, hon⟩
    rcases h with h | h
    · exact absurd hon (by rw [h]; decide)
    · exact h hline
  rw [ppuDot_background, if_neg off]
  exact (dotEvents_unseen _ _ s).1

/-- A dot with the pipeline at work is its step, from the state after the events. -/
theorem ppuDot_rendering {s : State} (hon : rendering s.ppu = true) (hline : s.ppu.scanline ≤ 239 ∨ s.ppu.scanline = 261) :
    background (ppuDot s).ppu =
      background (bgStep s.ppu.scanline s.ppu.dot (dotEvents s.ppu.scanline s.ppu.dot s)).ppu := by
  rw [ppuDot_background, if_pos ⟨hline, hon⟩]

/-- The sprite buffer being filled is kept inside a line where no sprite work is done. -/
theorem ppuDot_sprNext_rest {s : State} (h : 239 < s.ppu.scanline ∨ rendering s.ppu = false) (hdot : s.ppu.dot ≠ 340) :
    (ppuDot s).ppu.sprNext = s.ppu.sprNext := by
  have off : ¬(s.ppu.scanline ≤ 239 ∧ rendering s.ppu = true) := by
    rintro ⟨hline, hon⟩
    rcases h with h | h
    · omega
    · exact absurd hon (by rw [h]; decide)
  have work : (dotWork s.ppu.scanline s.ppu.dot s).ppu.sprNext = s.ppu.sprNext := by
    let k := fun t : State => t.ppu.sprNext
    calc k (dotWork s.ppu.scanline s.ppu.dot s)
      _ = _ := congrArg k (if_neg off)
      _ = _ := ite_keeps k _ rfl
      _ = _ := ite_keeps k _ (bgStep_sprNext _ _ _)
      _ = k s := dotEvents_sprNext _ _ s
  rw [ppuDot_ppu, advance_inLine (by simpa using hdot)]
  exact work

section
variable {s : State} (hon : rendering s.ppu = true) (hline : s.ppu.scanline ≤ 239 ∨ s.ppu.scanline = 261)
include hon hline

theorem ppuDot_shifters :
    shifters (ppuDot s).ppu =
      (shiftReload s.ppu.dot s.ppu.bgLo s.ppu.shPatLo, shiftReload s.ppu.dot s.ppu.bgHi s.ppu.shPatHi,
        shiftReload s.ppu.dot (spread (s.ppu.bgAt.getLsbD 0)) s.ppu.shAtLo,
        shiftReload s.ppu.dot (spread (s.ppu.bgAt.getLsbD 1)) s.ppu.shAtHi) := by
  have work : shifters (ppuDot s).ppu = _ := congrArg Prod.fst (ppuDot_rendering hon hline)
  have events := (dotEvents_unseen s.ppu.scanline s.ppu.dot s).1
  simp only [background, shifters, latches, Prod.mk.injEq] at events
  obtain ⟨⟨eplo, ephi, ealo, eahi⟩, ⟨-, eat, elo, ehi⟩, -⟩ := events
  rw [work]
  refine (bgStep_shifters ..).trans ?_
  simp only [shifters, afterShift, setPpu_ppu, eplo, ephi, ealo, eahi, elo, ehi, eat]

theorem ppuDot_latches_fetch (hf : fetches s.ppu.dot) :
    latches (ppuDot s).ppu =
      (if s.ppu.dot % 8 = 1 then ppuRead (ntFetchAddr s.ppu.v) s else s.ppu.bgNt,
        if s.ppu.dot % 8 = 3 then atSelect s.ppu.v (ppuRead (atFetchAddr s.ppu.v) s) else s.ppu.bgAt,
        if s.ppu.dot % 8 = 5 then ppuRead (patFetchAddr s.ppu) s else s.ppu.bgLo,
        if s.ppu.dot % 8 = 7 then ppuRead (patFetchAddr s.ppu ||| 0x0008#16) s else s.ppu.bgHi) := by
  have work : latches (ppuDot s).ppu = _ := congrArg (·.2.1) (ppuDot_rendering hon hline)
  obtain ⟨events, -, hpat, hread⟩ := dotEvents_unseen s.ppu.scanline s.ppu.dot s
  simp only [background, shifters, latches, Prod.mk.injEq] at events
  obtain ⟨-, ⟨ent, eat, elo, ehi⟩, ev, -⟩ := events
  rw [work]
  refine (bgStep_latches_fetch hf ..).trans ?_
  simp only [ev, hread, hpat, ent, eat, elo, ehi]

theorem ppuDot_latches_other (hf : ¬ fetches s.ppu.dot) : latches (ppuDot s).ppu = latches s.ppu := by
  have work : latches (ppuDot s).ppu = _ := congrArg (·.2.1) (ppuDot_rendering hon hline)
  have events : latches (dotEvents s.ppu.scanline s.ppu.dot s).ppu = _ :=
    congrArg (·.2.1) (dotEvents_unseen s.ppu.scanline s.ppu.dot s).1
  rw [work]
  exact (bgStep_latches_other hf ..).trans events

/-- `v` after the dot: the coarse X of a fetch group's last dot, then the scroll of the dot. -/
theorem ppuDot_v :
    (ppuDot s).ppu.v = scrolledV s.ppu.scanline s.ppu.dot s.ppu.t (fetchedV s.ppu.dot s.ppu.v) := by
  have work : (ppuDot s).ppu.v = _ := congrArg (·.2.2.1) (ppuDot_rendering hon hline)
  have events := (dotEvents_unseen s.ppu.scanline s.ppu.dot s).1
  simp only [background, Prod.mk.injEq] at events
  obtain ⟨-, -, ev, et, -⟩ := events
  rw [work]
  refine (bgStep_v ..).trans ?_
  simp only [ev, et]

theorem ppuDot_scroll : (ppuDot s).ppu.t = s.ppu.t ∧ (ppuDot s).ppu.x = s.ppu.x ∧ (ppuDot s).ppu.w = s.ppu.w := by
  have work := ppuDot_rendering hon hline
  have events := (dotEvents_unseen s.ppu.scanline s.ppu.dot s).1
  have kept := bgStep_exceptBackground s.ppu.scanline s.ppu.dot (dotEvents s.ppu.scanline s.ppu.dot s)
  simp only [background, Prod.mk.injEq] at work events
  obtain ⟨-, -, -, et, ex, ew⟩ := events
  obtain ⟨-, -, -, wt, wx, ww⟩ := work
  exact ⟨wt.trans ((congrArg Ppu.t kept :).trans et), wx.trans ((congrArg Ppu.x kept :).trans ex),
    ww.trans ((congrArg Ppu.w kept :).trans ew)⟩

end

/-- Settles O58: the pipeline's step at every dot, from the state after the events, which no fetch sees; and the arithmetic of `v`. -/
theorem scrollIncrementsAndReloads : Obligations.ScrollIncrementsAndReloads := by
  refine ⟨fun s hrest => ?_, fun s hon hline => ?_, fun v t => ⟨incX_fields v, incY_fields v, copyX_fields t v, copyY_fields t v⟩⟩
  · have rest := ppuDot_rest hrest
    simp only [background, shifters, latches, Prod.mk.injEq] at rest
    obtain ⟨⟨hplo, hphi, halo, hahi⟩, ⟨hnt, hat, hlo, hhi⟩, hv, -⟩ := rest
    refine ⟨hv, hplo, hphi, halo, hahi, hnt, hat, hlo, hhi, fun hdot => ⟨?_, ppuDot_sprNext_rest (hrest.symm.imp (by omega) id) hdot⟩⟩
    rw [ppuDot_ppu, advance_inLine (by simpa using hdot)]
    exact dotWork_sprCur _ _ s
  · have shift := ppuDot_shifters hon hline
    have hv := ppuDot_v hon hline
    have hfetch := isFetchDot_iff s.ppu.dot
    obtain ⟨slo, shi⟩ := spread_toNat s.ppu.bgAt
    simp only [shifters, Prod.mk.injEq] at shift
    obtain ⟨hplo, hphi, halo, hahi⟩ := shift
    refine ⟨⟨?_, ?_, ?_, ?_⟩, fun hf => ?_, fun hf => ?_, fun hd => ?_, fun hf hd => ?_, fun hd => ?_, fun hpre hd hd' => ?_,
      fun hf hd hpre => ?_, ppuDot_scroll hon hline⟩
    · rw [hplo, shiftReload_toNat]
    · rw [hphi, shiftReload_toNat]
    · rw [halo, shiftReload_toNat, slo]
    · rw [hahi, shiftReload_toNat, shi]
    · have filled := ppuDot_latches_fetch hon hline hf
      simp only [latches, Prod.mk.injEq] at filled
      exact filled
    · have kept := ppuDot_latches_other hon hline hf
      simp only [latches, Prod.mk.injEq] at kept
      exact kept
    · have fetch : isFetchDot s.ppu.dot = true ∧ s.ppu.dot % 8 = 0 := by rw [hfetch, fetches]; omega
      rw [hv, scrolledV, fetchedV, if_pos hd, if_pos fetch]
    · have noScroll : ¬(s.ppu.dot = 257) ∧ ¬(s.ppu.scanline = 261 ∧ 280 ≤ s.ppu.dot ∧ s.ppu.dot ≤ 304) := by
        unfold fetches at hf
        omega
      rw [hv, scrolledV, fetchedV, if_neg hd, if_neg noScroll.1, if_neg noScroll.2]
      simp only [hfetch, hf, true_and]
    · have noFetch : ¬(isFetchDot s.ppu.dot = true ∧ s.ppu.dot % 8 = 0) := by rw [hfetch, fetches]; omega
      rw [hv, scrolledV, fetchedV, if_neg (by omega), if_pos hd, if_neg noFetch]
    · have noFetch : ¬(isFetchDot s.ppu.dot = true ∧ s.ppu.dot % 8 = 0) := by rw [hfetch, fetches]; omega
      rw [hv, scrolledV, fetchedV, if_neg (by omega), if_neg (by omega), if_pos ⟨hpre, hd, hd'⟩, if_neg noFetch]
    · have not256 : s.ppu.dot ≠ 256 := fun h => hf (.inl (by omega))
      rw [hv, scrolledV, fetchedV, if_neg not256, if_neg hd, if_neg hpre, if_neg fun h => hf (hfetch.1 h.1)]

end Sys2Proof.Machine
end

section
/-! Sprite evaluation and its fetches, and the pixel of a dot (51_ppu.md R410 to R415, R430 to R434). -/

namespace Sys2Proof.Machine

open Sys2Proof.Vocab

/-! Evaluation -/

/-- A sprite of OAM is in range of a line. -/
def onLine (line : Nat) (p : Ppu) (n : Nat) : Bool := inRange line (spriteHeight p) (Memory.read p.oam (4 * n))

theorem spritesOnLine_eq (line : Nat) (p : Ppu) : spritesOnLine line p = (List.range 64).filter (onLine line p) := by
  refine List.filter_congr fun n _ => ?_
  simp only [onLine, inRange, spriteHeight, Bool.decide_and]
  rfl

/-- The loop of the evaluation over any part of OAM, from a buffer of at most eight slots (R412, R413). -/
theorem evalSprites_eq (line : Nat) (ns : List Nat) {p : Ppu} (h : p.sprNext.length ≤ 8) :
    ns.foldl (evalSprite line) p =
      { p with
        sprNext := (p.sprNext ++ (ns.filter (onLine line p)).map (oamSlot p)).take 8,
        overflow := p.overflow || decide (8 < p.sprNext.length + (ns.filter (onLine line p)).length) } := by
  induction ns generalizing p with
  | nil => simp [List.take_of_length_le h, Nat.not_lt.2 h]
  | cons n ns ih =>
    rw [List.foldl_cons]
    by_cases hn : onLine line p n = true
    · by_cases hfull : p.sprNext.length < 8
      · have turn : evalSprite line p n = { p with sprNext := p.sprNext ++ [oamSlot p n] } := by
          rw [evalSprite, ← onLine, if_pos hn, if_pos hfull]
          rfl
        have shorter : (p.sprNext ++ [oamSlot p n]).length ≤ 8 := by simp; omega
        rw [turn, ih shorter]
        have same : onLine line { p with sprNext := p.sprNext ++ [oamSlot p n] } = onLine line p := rfl
        have slot : oamSlot { p with sprNext := p.sprNext ++ [oamSlot p n] } = oamSlot p := rfl
        have count (k : Nat) : p.sprNext.length + 1 + k = p.sprNext.length + (k + 1) := by omega
        simp only [same, slot, List.filter_cons_of_pos hn, List.map_cons, List.append_assoc, List.singleton_append, List.length_append,
          List.length_cons, List.length_nil, Nat.zero_add, count]
      · have turn : evalSprite line p n = { p with overflow := true } := by rw [evalSprite, ← onLine, if_pos hn, if_neg hfull]
        have eight : p.sprNext.length = 8 := by omega
        rw [turn, ih (p := { p with overflow := true }) h]
        have same : onLine line { p with overflow := true } = onLine line p := rfl
        have slot : oamSlot { p with overflow := true } = oamSlot p := rfl
        simp [same, slot, hn, eight]
    · have turn : evalSprite line p n = p := by rw [evalSprite, ← onLine, if_neg hn]
      rw [turn, ih h, List.filter_cons_of_neg hn]

theorem spriteEval_eq (line : Nat) (p : Ppu) :
    spriteEval line p =
      { p with
        sprNext := ((spritesOnLine line p).take 8).map (oamSlot p),
        overflow := p.overflow || decide (8 < (spritesOnLine line p).length) } := by
  have loop := evalSprites_eq line (List.range 64) (p := { p with sprNext := [] }) (Nat.zero_le 8)
  have same : onLine line { p with sprNext := [] } = onLine line p := rfl
  have slot : oamSlot { p with sprNext := [] } = oamSlot p := rfl
  rw [spriteEval, loop, same, slot, spritesOnLine_eq]
  simp [List.map_take]

/-! The fetches -/

theorem modifySlot_eq (f : SpriteSlot → SpriteSlot) (i : Nat) (l : List SpriteSlot) : modifySlot f i l = l.modify i f := by
  induction l generalizing i with
  | nil => cases i <;> rfl
  | cons e l ih =>
    cases i with
    | zero => rfl
    | succ i => rw [modifySlot, ih, List.modify_succ_cons]

theorem flipIf_eq (e : SpriteSlot) (b : Byte) : flipIf (e.attr.getLsbD 6) b = plane e b := by
  have reversed : reverse8 b = mirrored b := by
    revert b
    decide
  rw [flipIf, plane, reversed]

/-- The sprite work of a dot, by its place (R410). -/
theorem spriteStep_eval (line : Nat) (s : State) : (spriteStep line 257 s).ppu = spriteEval line s.ppu := by
  rw [spriteStep, if_pos rfl, setPpu_ppu]

theorem spriteStep_low {i : Nat} (hi : i < 8) (line : Nat) (s : State) :
    (spriteStep line (261 + 8 * i) s).ppu = { s.ppu with sprNext := s.ppu.sprNext.modify i (fetchSlotLo line s) } := by
  have place : (261 + 8 * i - 261) % 8 = 0 ∧ (261 + 8 * i - 261) / 8 = i := by omega
  rw [spriteStep, if_neg (by omega), if_pos (by omega), place.1, place.2]
  simp only [modifySlot_eq]
  rfl

theorem spriteStep_high {i : Nat} (hi : i < 8) (line : Nat) (s : State) :
    (spriteStep line (263 + 8 * i) s).ppu = { s.ppu with sprNext := s.ppu.sprNext.modify i (fetchSlotHi line s) } := by
  have place : (263 + 8 * i - 261) % 8 = 2 ∧ (263 + 8 * i - 261) / 8 = i := by omega
  rw [spriteStep, if_neg (by omega), if_pos (by omega), place.1, place.2]
  simp only [modifySlot_eq]
  rfl

theorem spriteStep_other {d : Nat} (hd : d ≠ 257) (hfetch : ∀ i, i < 8 → d ≠ 261 + 8 * i ∧ d ≠ 263 + 8 * i) (line : Nat) (s : State) :
    spriteStep line d s = s := by
  rw [spriteStep, if_neg hd]
  split
  next hrange =>
    have hi : (d - 261) / 8 < 8 := by omega
    have hlt : (d - 261) % 8 < 8 := Nat.mod_lt _ (by decide)
    have away := hfetch _ hi
    have notLow : (d - 261) % 8 ≠ 0 := by omega
    have notHigh : (d - 261) % 8 ≠ 2 := by omega
    split
    next h => exact absurd h notLow
    next h => exact absurd h notHigh
    next => rfl
  next => rfl

theorem spriteStep_overflow {d : Nat} (hd : d ≠ 257) (line : Nat) (s : State) :
    (spriteStep line d s).ppu.overflow = s.ppu.overflow := by
  rw [spriteStep, if_neg hd]
  (repeat' split) <;> rfl

/-! A visible line's dot -/

theorem dotEvents_visible {line : Nat} (h : line ≤ 239) (d : Nat) (s : State) : dotEvents line d s = s := by
  rw [dotEvents, if_neg (by omega), if_neg (by omega)]

/-- What the sprite work reads, and no other part of a dot on a visible line writes. -/
def spriteInputs (s : State) :
    (Config × Memory 8 × Mapper × Mirroring) × (Memory 6 × Memory 8 × Memory 8) × (Memory 8 × Byte) × (List SpriteSlot × Bool) :=
  ((s.cfg, s.chrRam, s.mapper, s.mirroring), (s.ppu.palette, s.ppu.nt, s.ppu.ntExt), (s.ppu.oam, s.ppu.ctrl), (s.ppu.sprNext, s.ppu.overflow))

theorem bgStep_spriteInputs (line d : Nat) (s : State) : spriteInputs (bgStep line d s) = spriteInputs s := by
  have kept := bgStep_exceptBackground line d s
  have hppu : spriteInputs { s with ppu := (bgStep line d s).ppu } = spriteInputs { s with ppu := exceptBackground (bgStep line d s).ppu } := rfl
  rw [bgStep_state, hppu, kept]
  rfl

/-- The PPU's bus sees the cartridge and the PPU's memories alone. -/
theorem ppuRead_congr {s t : State} (h : spriteInputs t = spriteInputs s) (a : Addr) : ppuRead a t = ppuRead a s := by
  simp only [spriteInputs, Prod.mk.injEq] at h
  obtain ⟨⟨hcfg, hchr, hmapper, hmirror⟩, ⟨hpal, hnt, hext⟩, -⟩ := h
  simp only [ppuRead, mapperPpuRead, chrOffset, ntRead, ntPage, hcfg, hchr, hmapper, hmirror, hpal, hnt, hext]
  rfl

theorem spriteRowAddr_congr {p q : Ppu} (h : q.ctrl = p.ctrl) (line : Nat) (e : SpriteSlot) :
    spriteRowAddr q line e = spriteRowAddr p line e := by
  simp only [spriteRowAddr, spriteRow, spriteHeight, h]
  rfl

/-- The state in which a visible dot's sprite work runs: after the background pipeline and the pixel. -/
def beforeSprites (s : State) : State :=
  let line := s.ppu.scanline
  let d := s.ppu.dot
  let b := if rendering s.ppu then bgStep line d s else s
  if line ≤ 239 ∧ 1 ≤ d ∧ d ≤ 256 then compose line (d - 1) b else b

theorem beforeSprites_inputs (s : State) : spriteInputs (beforeSprites s) = spriteInputs s := by
  have drawn (b : State) : spriteInputs (compose s.ppu.scanline (s.ppu.dot - 1) b) = spriteInputs b := rfl
  have kept : spriteInputs (if rendering s.ppu then bgStep s.ppu.scanline s.ppu.dot s else s) = spriteInputs s :=
    ite_keeps spriteInputs (rendering s.ppu = true) (bgStep_spriteInputs _ _ s)
  rw [← kept]
  exact ite_keeps spriteInputs _ (drawn _)

/-- The work of a dot of a visible line. -/
theorem dotWork_visible {s : State} (h : s.ppu.scanline ≤ 239) :
    dotWork s.ppu.scanline s.ppu.dot s =
      if rendering s.ppu then spriteStep s.ppu.scanline s.ppu.dot (beforeSprites s) else beforeSprites s := by
  unfold dotWork beforeSprites
  simp only [dotEvents_visible h, h, true_or, true_and]

theorem ppuDot_overflow (s : State) : (ppuDot s).ppu.overflow = (dotWork s.ppu.scanline s.ppu.dot s).ppu.overflow := by
  rw [ppuDot_ppu, advance_frame]

theorem ppuDot_sprNext {s : State} (h : s.ppu.dot ≠ 340) :
    (ppuDot s).ppu.sprNext = (dotWork s.ppu.scanline s.ppu.dot s).ppu.sprNext := by
  rw [ppuDot_ppu, advance_inLine (by simpa using h)]

/-- Away from a visible line, or with rendering disabled, only the pre-render line's event touches the overflow flag. -/
theorem ppuDot_overflow_rest {s : State} (h : 239 < s.ppu.scanline ∨ rendering s.ppu = false)
    (hclear : ¬(s.ppu.scanline = 261 ∧ s.ppu.dot = 1)) : (ppuDot s).ppu.overflow = s.ppu.overflow := by
  have off : ¬(s.ppu.scanline ≤ 239 ∧ rendering s.ppu = true) := by
    rintro ⟨hline, hon⟩
    rcases h with h | h
    · omega
    · exact absurd hon (by rw [h]; decide)
  have events : (dotEvents s.ppu.scanline s.ppu.dot s).ppu.overflow = s.ppu.overflow := by
    rw [dotEvents, if_neg hclear]
    split <;> rfl
  let k := fun t : State => t.ppu.overflow
  rw [ppuDot_overflow]
  calc k (dotWork s.ppu.scanline s.ppu.dot s)
    _ = _ := congrArg k (if_neg off)
    _ = _ := ite_keeps k _ rfl
    _ = _ := ite_keeps k _ (congrArg Ppu.overflow (bgStep_exceptBackground _ _ _) :)
    _ = k s := events

/-- Settles O54: the loop's invariant gives the slots and the flag, and a dot's sprite work is one of its three cases. -/
theorem spriteEvaluationTakesTheFirstEight : Obligations.SpriteEvaluationTakesTheFirstEight := by
  refine ⟨fun line p => ?_, fun s => ⟨fun hline hon => ?_, fun hrest hdot =>
    ⟨ppuDot_sprNext_rest hrest hdot, ppuDot_overflow_rest hrest⟩⟩⟩
  · rw [spriteEval_eq]
    exact ⟨rfl, rfl, rfl⟩
  · have work : dotWork s.ppu.scanline s.ppu.dot s = spriteStep s.ppu.scanline s.ppu.dot (beforeSprites s) := by
      rw [dotWork_visible hline, if_pos hon]
    have inputs := beforeSprites_inputs s
    have hread := ppuRead_congr inputs
    generalize beforeSprites s = b at work inputs hread
    simp only [spriteInputs, Prod.mk.injEq] at inputs
    obtain ⟨-, -, ⟨hoam, hctrl⟩, hnext, hover⟩ := inputs
    have hrow := spriteRowAddr_congr hctrl s.ppu.scanline
    have low : fetchSlotLo s.ppu.scanline b =
        fun e => { e with patLo := plane e (ppuRead (spriteRowAddr s.ppu s.ppu.scanline e) s) } := by
      funext e
      rw [fetchSlotLo, hrow, hread, flipIf_eq]
    have high : fetchSlotHi s.ppu.scanline b =
        fun e => { e with patHi := plane e (ppuRead (spriteRowAddr s.ppu s.ppu.scanline e ||| 0x0008#16) s) } := by
      funext e
      rw [fetchSlotHi, hrow, hread, flipIf_eq]
    refine ⟨fun hd => ?_, fun i hi hd => ?_, fun i hi hd => ?_, fun hd hend hfetch => ?_, fun hd => ?_⟩
    · have hlist : spritesOnLine s.ppu.scanline b.ppu = spritesOnLine s.ppu.scanline s.ppu := by simp only [spritesOnLine, hoam, hctrl]
      have hslot : oamSlot b.ppu = oamSlot s.ppu := by
        funext n
        simp only [oamSlot, hoam]
      rw [ppuDot_sprNext (by omega), ppuDot_overflow, work, hd, spriteStep_eval, spriteEval_eq, hlist, hslot, hover]
      exact ⟨rfl, rfl⟩
    · rw [ppuDot_sprNext (by omega), work, hd, spriteStep_low hi, hnext, low]
    · rw [ppuDot_sprNext (by omega), work, hd, spriteStep_high hi, hnext, high]
    · rw [ppuDot_sprNext hend, work, spriteStep_other hd hfetch, hnext]
    · rw [ppuDot_overflow, work, spriteStep_overflow hd, hover]

end Sys2Proof.Machine
end

section
/-! The pixel of a dot (51_ppu.md R380, R398, R415, R430 to R434). -/

namespace Sys2Proof.Machine

open Sys2Proof.Vocab

/-! The candidates -/

theorem pair_eq_twoBits {n m : Nat} (a : BitVec n) (b : BitVec m) (k : Nat) :
    pair (a.getLsbD k) (b.getLsbD k) = twoBits a.toNat b.toNat k := by
  simp only [pair, twoBits, BitVec.getLsbD, Nat.toNat_testBit]

theorem pair_lt (hi lo : Bool) : pair hi lo < 4 := by
  revert hi lo
  decide

theorem bgCandidate_lt (p : Ppu) (px : Nat) : (bgCandidate p px).1 < 4 ∧ (bgCandidate p px).2 < 4 := by
  unfold bgCandidate
  split
  · exact ⟨pair_lt _ _, pair_lt _ _⟩
  · decide

theorem bgCandidate_off {p : Ppu} (h : p.mask.getLsbD 3 = false) (px : Nat) : bgCandidate p px = (0, 0) := by
  rw [bgCandidate, h]
  rfl

theorem spriteCandidate_off {p : Ppu} (h : p.mask.getLsbD 4 = false) (px : Nat) : spriteCandidate p px = noSprite := by
  rw [spriteCandidate, h]
  rfl

theorem slotPixel_lt (px : Nat) (e : SpriteSlot) : slotPixel px e < 4 := by
  unfold slotPixel
  split
  · exact pair_lt _ _
  · decide

theorem spritePixel_lt (px : Nat) (l : List SpriteSlot) : (spritePixel px l).pix < 4 ∧ (spritePixel px l).pal < 4 := by
  induction l with
  | nil => exact (by decide : noSprite.pix < 4 ∧ noSprite.pal < 4)
  | cons e l ih =>
    rw [spritePixel]
    split
    · exact ⟨slotPixel_lt px e, pair_lt _ _⟩
    · exact ih

theorem spriteCandidate_lt (p : Ppu) (px : Nat) : (spriteCandidate p px).pix < 4 ∧ (spriteCandidate p px).pal < 4 := by
  unfold spriteCandidate
  split
  · exact spritePixel_lt px p.sprCur
  · decide

/-- The priority rule never names a mirrored palette entry, so the palette is read at the index itself. -/
theorem palIndex_pixelIndex {bg : Nat × Nat} {sp : SpritePixel} (hbg : bg.1 < 4 ∧ bg.2 < 4) (hsp : sp.pix < 4 ∧ sp.pal < 4) :
    palIndex (BitVec.ofNat 16 (pixelIndex bg sp)) = pixelIndex bg sp := by
  obtain ⟨bound, real⟩ : pixelIndex bg sp < 32 ∧ ¬(16 ≤ pixelIndex bg sp ∧ pixelIndex bg sp % 4 = 0) := by
    unfold pixelIndex
    split
    · omega
    · split <;> omega
  have value : (BitVec.ofNat 16 (pixelIndex bg sp)).toNat % 32 = pixelIndex bg sp := by
    rw [BitVec.toNat_ofNat]
    omega
  simp only [palIndex, value, if_neg real]

/-- Greyscale keeps the two high bits of the colour (R433). -/
theorem colourNumber_toNat {bg : Nat × Nat} {sp : SpritePixel} (hbg : bg.1 < 4 ∧ bg.2 < 4) (hsp : sp.pix < 4 ∧ sp.pal < 4) (p : Ppu) :
    let c := (Memory.read p.palette (pixelIndex bg sp)).toNat
    (colourNumber p (pixelIndex bg sp)).toNat = if p.mask.getLsbD 0 then c / 16 * 16 else c := by
  simp only [colourNumber, palIndex_pixelIndex hbg hsp]
  split
  · generalize Memory.read p.palette (pixelIndex bg sp) = c
    have masked : (c &&& 0x30#6).toNat = c.toNat / 16 % 4 * 16 := toNat_and_field c 4 2
    have := c.isLt
    omega
  · rfl

theorem isSpriteZeroHit_eq (px : Nat) (bg : Nat × Nat) (sp : SpritePixel) :
    isSpriteZeroHit px bg sp = decide (bg.1 ≠ 0 ∧ sp.pix ≠ 0 ∧ sp.zero = true ∧ px ≠ 255) := by
  simp only [isSpriteZeroHit, Bool.decide_and, Bool.decide_eq_true, Bool.and_assoc]

/-! What draws -/

/-- The picture and the sprite-0 hit: what drawing writes. -/
def canvas (p : Ppu) : Memory 24 × Bool := (p.fb, p.spr0hit)

theorem spriteStep_canvas (line d : Nat) (s : State) : canvas (spriteStep line d s).ppu = canvas s.ppu := by
  by_cases hd : d = 257
  · rw [hd, spriteStep_eval, spriteEval_eq]
    rfl
  · rw [spriteStep, if_neg hd]
    (repeat' split) <;> rfl

theorem advance_canvas (p : Ppu) : canvas (advance p) = canvas p := by
  rw [advance_frame]
  rfl

theorem bgStep_canvas (line d : Nat) (s : State) : canvas (bgStep line d s).ppu = canvas s.ppu :=
  (congrArg canvas (bgStep_exceptBackground line d s) :)

/-- Away from the visible columns no dot draws, and only the pre-render line's event touches the hit. -/
theorem ppuDot_canvas_unseen {s : State} (h : ¬(s.ppu.scanline ≤ 239 ∧ 1 ≤ s.ppu.dot ∧ s.ppu.dot ≤ 256)) :
    canvas (ppuDot s).ppu = canvas (dotEvents s.ppu.scanline s.ppu.dot s).ppu := by
  let k := fun t : State => canvas t.ppu
  rw [ppuDot_ppu, advance_canvas]
  calc k (dotWork s.ppu.scanline s.ppu.dot s)
    _ = _ := ite_keeps k _ (spriteStep_canvas _ _ _)
    _ = _ := congrArg k (if_neg h)
    _ = _ := ite_keeps k _ (bgStep_canvas _ _ _)

theorem ppuDot_canvas_visible {s : State} (h : s.ppu.scanline ≤ 239) : canvas (ppuDot s).ppu = canvas (beforeSprites s).ppu := by
  rw [ppuDot_ppu, advance_canvas, dotWork_visible h]
  exact ite_keeps (fun t : State => canvas t.ppu) _ (spriteStep_canvas _ _ _)

theorem dotEvents_fb (line d : Nat) (s : State) : (dotEvents line d s).ppu.fb = s.ppu.fb := by
  unfold dotEvents
  (repeat' split) <;> rfl

theorem dotEvents_spr0hit {line d : Nat} (h : ¬(line = 261 ∧ d = 1)) (s : State) :
    (dotEvents line d s).ppu.spr0hit = s.ppu.spr0hit := by
  rw [dotEvents, if_neg h]
  split <;> rfl

/-- The pixel and the hit of a dot in a visible column, after its background work. -/
theorem ppuDot_canvas_column {s : State} (hline : s.ppu.scanline ≤ 239) (hlow : 1 ≤ s.ppu.dot) (hhigh : s.ppu.dot ≤ 256) :
    let px := s.ppu.dot - 1
    let b := if rendering s.ppu then bgStep s.ppu.scanline s.ppu.dot s else s
    let bg := bgCandidate b.ppu px
    let sp := spriteCandidate s.ppu px
    canvas (ppuDot s).ppu =
      (Memory.write s.ppu.fb (fbIndex s.ppu.scanline px) (colour s.cfg (colourNumber s.ppu (pixelIndex bg sp))),
        s.ppu.spr0hit || isSpriteZeroHit px bg sp) := by
  intro px b bg sp
  have kept : exceptBackground b.ppu = exceptBackground s.ppu :=
    ite_keeps (fun t : State => exceptBackground t.ppu) _ (bgStep_exceptBackground _ _ s)
  have hcfg : b.cfg = s.cfg := ite_keeps State.cfg (rendering s.ppu = true) (by rw [bgStep_state])
  have hsp : spriteCandidate b.ppu px = sp := (congrArg (fun p => spriteCandidate p px) kept :)
  have hcolour (i : Nat) : colourNumber b.ppu i = colourNumber s.ppu i := (congrArg (fun p => colourNumber p i) kept :)
  have hcanvas : canvas b.ppu = canvas s.ppu := (congrArg canvas kept :)
  have hfb : b.ppu.fb = s.ppu.fb := congrArg Prod.fst hcanvas
  have hhit : b.ppu.spr0hit = s.ppu.spr0hit := congrArg Prod.snd hcanvas
  have work : beforeSprites s = compose s.ppu.scanline px b := if_pos ⟨hline, hlow, hhigh⟩
  rw [ppuDot_canvas_visible hline, work, ← hsp, ← hfb, ← hhit, ← hcfg, ← hcolour]
  rfl

/-- Settles O57: the drawing step of a visible dot, with its candidates as numbers, and the frame of every other dot. -/
theorem dotsDrawTheirPixel : Obligations.DotsDrawTheirPixel := by
  refine ⟨fun p px e => ⟨?_, ?_, ?_⟩, fun s => ⟨fun hline hlow hhigh => ?_, fun hunseen => ⟨?_, fun hclear => ?_⟩⟩⟩
  · simp only [bgCandidate, bgPixel, pair_eq_twoBits, Bool.and_eq_true, Bool.or_eq_true, decide_eq_true_eq]
  · simp only [spriteCandidate, Bool.and_eq_true, Bool.or_eq_true, decide_eq_true_eq]
    rfl
  · simp only [slotPixel, pair_eq_twoBits]
  · intro b bg sp c
    have drawn := ppuDot_canvas_column hline hlow hhigh
    obtain ⟨hfb, hhit⟩ := Prod.mk.inj drawn
    have hmask : b.ppu.mask = s.ppu.mask :=
      ite_keeps (fun t : State => t.ppu.mask) _ (congrArg Ppu.mask (bgStep_exceptBackground _ _ s) :)
    refine ⟨?_, fun row col hcol hother => ?_, ?_, fun hbgOff hspOff => ?_⟩
    · rw [pixel, hfb, Memory.read_write_same, colour, colourNumber_toNat (bgCandidate_lt _ _) (spriteCandidate_lt _ _)]
    · have place : fbIndex row col ≠ fbIndex s.ppu.scanline (s.ppu.dot - 1) := by
        simp only [fbIndex]
        omega
      rw [pixel, hfb, Memory.read_write_other _ _ place, pixel]
    · rw [hhit, isSpriteZeroHit_eq]
    · have noBackground : bg = (0, 0) := bgCandidate_off (by rw [hmask, hbgOff]) _
      have noSprites : sp = noSprite := spriteCandidate_off hspOff _
      rw [noBackground, noSprites]
      rfl
  · exact (congrArg Prod.fst (ppuDot_canvas_unseen hunseen)).trans (dotEvents_fb _ _ s)
  · exact (congrArg Prod.snd (ppuDot_canvas_unseen hunseen)).trans (dotEvents_spr0hit hclear s)

end Sys2Proof.Machine
end

section
/-! The addresses of the tile and sprite fetches (51_ppu.md R393, R414). -/

namespace Sys2Proof.Machine

open Sys2Proof.Vocab

/-! Addresses put together from fields -/

/-- A pattern table, a tile and a row make a pattern address. -/
theorem patternAddr_toNat {table row : Addr} (htable : table.toNat % 4096 = 0) (tile : Byte) (hrow : row.toNat < 16) :
    (table ||| (tile.setWidth 16 <<< 4) ||| row).toNat = table.toNat + 16 * tile.toNat + row.toNat := by
  have := tile.isLt
  have shifted : (tile.setWidth 16 <<< 4).toNat = 16 * tile.toNat := by
    rw [BitVec.toNat_shiftLeft, BitVec.toNat_setWidth, Nat.shiftLeft_eq]
    omega
  have upper : (table ||| (tile.setWidth 16 <<< 4)).toNat = table.toNat + 16 * tile.toNat := by
    rw [toNat_or_of_lt 12 htable (by rw [shifted]; omega), shifted]
  rw [toNat_or_of_lt 4 (by rw [upper]; omega) hrow, upper]

/-- The high plane of a pattern row is eight bytes on (R393). -/
theorem highPlane_toNat {a : Addr} (h : a.toNat % 16 < 8) : (a ||| 0x0008#16).toNat = a.toNat + 8 := by
  have masked : (a &&& 0x0008#16).toNat = a.toNat / 8 % 2 * 8 := toNat_and_field a 3 1
  have clear : a &&& 0x0008#16 = 0#16 := by
    apply BitVec.eq_of_toNat_eq
    rw [masked, BitVec.toNat_zero]
    omega
  have := a.isLt
  rw [← BitVec.add_eq_or_of_and_eq_zero a _ clear, BitVec.toNat_add, BitVec.toNat_ofNat]
  omega

theorem table_toNat (b : Bool) : (if b then 0x1000#16 else 0x0000#16).toNat = if b then 0x1000 else 0 := by
  cases b <;> rfl

/-! The background -/

theorem scroll_toNat (v : BitVec 15) : (v.setWidth 16).toNat = v.toNat := by
  have := v.isLt
  rw [BitVec.toNat_setWidth]
  omega

theorem ntFetchAddr_toNat (v : BitVec 15) : (ntFetchAddr v).toNat = 0x2000 + v.toNat % 4096 := by
  have masked : (v.setWidth 16 &&& 0x0FFF#16).toNat = v.toNat % 4096 := by
    simpa [scroll_toNat] using toNat_and_field (v.setWidth 16) 0 12
  rw [ntFetchAddr, toNat_or_of_lt 12 (by decide) (by rw [masked]; omega), masked]
  rfl

/-- The address of `FetchAt()`: the nametable's bits go in between those of its table's base. -/
theorem atFetchAddr_toNat (v : BitVec 15) :
    (atFetchAddr v).toNat = 0x23C0 + 0x800 * tableY v + 0x400 * tableX v + 8 * (coarseY v / 4) + coarseX v / 4 := by
  have table : (v.setWidth 16 &&& 0x0C00#16).toNat = v.toNat / 1024 % 4 * 1024 := by
    rw [← scroll_toNat v]
    exact toNat_and_field (v.setWidth 16) 10 2
  have row : ((v.setWidth 16 >>> 4) &&& 0x0038#16).toNat = v.toNat / 16 / 8 % 8 * 8 := by
    rw [← scroll_toNat v]
    exact (toNat_and_field (v.setWidth 16 >>> 4) 3 3).trans (by simp [Nat.shiftRight_eq_div_pow])
  have column : ((v.setWidth 16 >>> 2) &&& 0x0007#16).toNat = v.toNat / 4 % 8 := by
    rw [← scroll_toNat v]
    exact (toNat_and_field (v.setWidth 16 >>> 2) 0 3).trans (by simp [Nat.shiftRight_eq_div_pow])
  have base : 0x23C0#16 ||| (v.setWidth 16 &&& 0x0C00#16) = 0x2000#16 ||| (v.setWidth 16 &&& 0x0C00#16) ||| 0x03C0#16 := by
    rw [BitVec.or_assoc, BitVec.or_comm _ 0x03C0#16, ← BitVec.or_assoc]
    rfl
  have one : (0x2000#16 ||| (v.setWidth 16 &&& 0x0C00#16)).toNat = 0x2000 + v.toNat / 1024 % 4 * 1024 := by
    rw [toNat_or_of_lt 12 (by decide) (by rw [table]; omega), table]
    rfl
  have two : (0x23C0#16 ||| (v.setWidth 16 &&& 0x0C00#16)).toNat = 0x23C0 + v.toNat / 1024 % 4 * 1024 := by
    rw [base, toNat_or_of_lt 10 (by rw [one]; omega) (by decide), one, BitVec.toNat_ofNat]
    omega
  have three : (0x23C0#16 ||| (v.setWidth 16 &&& 0x0C00#16) ||| ((v.setWidth 16 >>> 4) &&& 0x0038#16)).toNat =
      0x23C0 + v.toNat / 1024 % 4 * 1024 + v.toNat / 16 / 8 % 8 * 8 := by
    rw [toNat_or_of_lt 6 (by rw [two]; omega) (by rw [row]; omega), two, row]
  rw [atFetchAddr, toNat_or_of_lt 3 (by rw [three]; omega) (by rw [column]; omega), three, column]
  obtain ⟨fields, hcx, hcy, htx, hty, -⟩ := fields_toNat v
  have tables : v.toNat / 1024 % 4 = tableX v + 2 * tableY v := by omega
  have rows : v.toNat / 16 / 8 % 8 = coarseY v / 4 := by omega
  have columns : v.toNat / 4 % 8 = coarseX v / 4 := by omega
  omega

theorem atSelect_toNat (v : BitVec 15) (b : Byte) :
    (atSelect v b).toNat = b.toNat / 4 ^ (2 * (coarseY v / 2 % 2) + coarseX v / 2 % 2) % 4 := by
  have lower : coarseY v / 2 % 2 = (v.getLsbD 6).toNat := by
    rw [BitVec.getLsbD, Nat.toNat_testBit, coarseY]
    omega
  have right : coarseX v / 2 % 2 = (v.getLsbD 1).toNat := by
    rw [BitVec.getLsbD, Nat.toNat_testBit, coarseX]
    omega
  rw [lower, right, atSelect]
  cases v.getLsbD 6 <;> cases v.getLsbD 1 <;> simp [Nat.shiftRight_eq_div_pow]

theorem patFetchAddr_toNat (p : Ppu) :
    (patFetchAddr p).toNat = (if p.ctrl.getLsbD 4 then 0x1000 else 0) + 16 * p.bgNt.toNat + fineY p.v := by
  have row : (p.v.setWidth 16 >>> 12).toNat = fineY p.v := by
    rw [BitVec.toNat_ushiftRight, scroll_toNat, Nat.shiftRight_eq_div_pow, fineY]
  have small : fineY p.v < 8 := (fields_toNat p.v).2.2.2.2.2
  rw [patFetchAddr, patternAddr_toNat (by cases p.ctrl.getLsbD 4 <;> rfl) _ (by omega), row, table_toNat]

theorem patFetchAddr_row (p : Ppu) : (patFetchAddr p).toNat % 16 < 8 := by
  have small : fineY p.v < 8 := (fields_toNat p.v).2.2.2.2.2
  rw [patFetchAddr_toNat]
  split <;> omega

/-! The sprites -/

/-- The row of a sprite in range, flipped or not: the byte arithmetic does not wrap. -/
theorem spriteRow_toNat {p : Ppu} {line : Nat} {e : SpriteSlot} (hlow : e.y.toNat ≤ line) (hhigh : line < e.y.toNat + spriteHeight p) :
    (spriteRow p line e).toNat = (if e.attr.getLsbD 7 then spriteHeight p - 1 - (line - e.y.toNat) else line - e.y.toNat) ∧
      (spriteRow p line e).toNat < spriteHeight p := by
  have height : spriteHeight p ≤ 16 := by
    unfold spriteHeight
    split <;> decide
  have := e.y.isLt
  have down : (BitVec.ofNat 8 line - e.y).toNat = line - e.y.toNat := by
    rw [BitVec.toNat_sub, BitVec.toNat_ofNat]
    omega
  unfold spriteRow
  split
  · rw [BitVec.toNat_sub, BitVec.toNat_ofNat, down]
    omega
  · rw [down]
    omega

/-- The tile of a row of an 8 by 16 sprite (R414). -/
theorem tallTile_toNat (tile : Byte) {r : Nat} (h : r < 16) :
    ((tile &&& 0xFE#8) ||| (if r ≥ 8 then 1#8 else 0#8)).toNat = tile.toNat / 2 * 2 + r / 8 := by
  have masked : (tile &&& 0xFE#8).toNat = tile.toNat / 2 % 128 * 2 := toNat_and_field tile 1 7
  have half : (if r ≥ 8 then 1#8 else 0#8).toNat = r / 8 := by
    split
    · exact (by decide : (1#8).toNat = 1).trans (by omega)
    · exact (by decide : (0#8).toNat = 0).trans (by omega)
  have := tile.isLt
  rw [toNat_or_of_lt 1 (by rw [masked]; omega) (by rw [half]; omega), masked, half]
  omega

theorem spriteRowAddr_toNat {p : Ppu} {line : Nat} {e : SpriteSlot} (hrow : (spriteRow p line e).toNat < spriteHeight p) :
    let row := (spriteRow p line e).toNat
    (spriteRowAddr p line e).toNat =
      if p.ctrl.getLsbD 5 then 0x1000 * (e.tile.toNat % 2) + 16 * (e.tile.toNat / 2 * 2 + row / 8) + row % 8
      else (if p.ctrl.getLsbD 3 then 0x1000 else 0) + 16 * e.tile.toNat + row := by
  intro row
  simp only [spriteRowAddr]
  split
  next htall =>
    have height : spriteHeight p = 16 := if_pos htall
    have htable : ((e.tile &&& 1#8).setWidth 16 <<< 12).toNat = 0x1000 * (e.tile.toNat % 2) := by
      have masked : (e.tile &&& 1#8).toNat = e.tile.toNat % 2 := by simp
      rw [BitVec.toNat_shiftLeft, BitVec.toNat_setWidth, masked, Nat.shiftLeft_eq]
      omega
    have fine : ((spriteRow p line e &&& 7#8).setWidth 16).toNat = row % 8 := by
      have masked : (spriteRow p line e &&& 7#8).toNat = row % 8 :=
        (toNat_and_field (spriteRow p line e) 0 3).trans (by simp [row])
      rw [BitVec.toNat_setWidth, masked]
      omega
    rw [patternAddr_toNat (by rw [htable]; omega) _ (by rw [fine]; omega), htable, fine, tallTile_toNat _ (by omega)]
  next hshort =>
    have height : spriteHeight p = 8 := if_neg hshort
    have fine : ((spriteRow p line e).setWidth 16).toNat = row := by
      rw [BitVec.toNat_setWidth]
      omega
    rw [patternAddr_toNat (by cases p.ctrl.getLsbD 3 <;> rfl) _ (by omega), fine, table_toNat]

/-- Settles O56: each address is a sum of disjoint fields, and a sprite's row in range does not wrap. -/
theorem fetchAddressesOfTilesAndSprites : Obligations.FetchAddressesOfTilesAndSprites := by
  intro p b line e v
  refine ⟨ntFetchAddr_toNat v, atFetchAddr_toNat v, atSelect_toNat v b, patFetchAddr_toNat p, highPlane_toNat (patFetchAddr_row p),
    fun hlow hhigh => ?_⟩
  obtain ⟨hrow, hsmall⟩ := spriteRow_toNat (p := p) hlow hhigh
  have address := spriteRowAddr_toNat hsmall
  have lowPlane : (spriteRowAddr p line e).toNat % 16 < 8 := by
    rw [address]
    unfold spriteHeight at hsmall
    split
    · omega
    · rename_i hshort
      rw [if_neg hshort] at hsmall
      split <;> omega
  refine ⟨?_, highPlane_toNat lowPlane⟩
  rw [address, hrow]
  rfl

end Sys2Proof.Machine
end

section
/-! OAM DMA (50_bus_devices.md R300, R320 to R325). -/

namespace Sys2Proof.Machine

open Sys2Proof.Vocab

/-! The engine, cycle by cycle -/

/-- The engine `k` cycles into a DMA of page `v` with `d` dummy cycles: these, then a read and a write for each byte (R322). -/
def engineAt (v : Byte) (d k : Nat) (latch : Byte) : Dma :=
  if k < d then { active := true, page := v, dummy := d - k, index := 0#8, phase := .read, latch := latch }
  else if k < d + 512 then
    { active := true, page := v, dummy := 0, index := BitVec.ofNat 8 ((k - d) / 2),
      phase := if (k - d) % 2 = 0 then .read else .write, latch := latch }
  else { active := false, page := v, dummy := 0, index := 255#8, phase := .read, latch := latch }

theorem engineAt_waiting {d k : Nat} (h : k < d) (v latch : Byte) :
    engineAt v d k latch = { active := true, page := v, dummy := d - k, index := 0#8, phase := .read, latch := latch } :=
  if_pos h

theorem engineAt_reading {i : Nat} (h : i < 256) (v : Byte) (d : Nat) (latch : Byte) :
    engineAt v d (d + 2 * i) latch =
      { active := true, page := v, dummy := 0, index := BitVec.ofNat 8 i, phase := .read, latch := latch } := by
  obtain ⟨index, phase⟩ : (d + 2 * i - d) / 2 = i ∧ (d + 2 * i - d) % 2 = 0 := by omega
  rw [engineAt, if_neg (by omega), if_pos (by omega), index, if_pos phase]

theorem engineAt_writing {i : Nat} (h : i < 256) (v : Byte) (d : Nat) (latch : Byte) :
    engineAt v d (d + 2 * i + 1) latch =
      { active := true, page := v, dummy := 0, index := BitVec.ofNat 8 i, phase := .write, latch := latch } := by
  obtain ⟨index, phase⟩ : (d + 2 * i + 1 - d) / 2 = i ∧ ¬(d + 2 * i + 1 - d) % 2 = 0 := by omega
  rw [engineAt, if_neg (by omega), if_pos (by omega), index, if_neg phase]

theorem engineAt_done (v : Byte) (d : Nat) (latch : Byte) :
    engineAt v d (d + 512) latch = { active := false, page := v, dummy := 0, index := 255#8, phase := .read, latch := latch } := by
  rw [engineAt, if_neg (by omega), if_neg (by omega)]

theorem engineAt_active (v : Byte) (d k : Nat) (latch : Byte) : (engineAt v d k latch).active = decide (k < d + 512) := by
  unfold engineAt
  (repeat' split) <;> simp <;> omega

theorem engineAt_latch (v : Byte) (d k : Nat) (latch : Byte) : (engineAt v d k latch).latch = latch := by
  unfold engineAt
  (repeat' split) <;> rfl

/-- A cycle of a DMA in flight is a dummy cycle, or the read or the write of a byte. -/
theorem engine_cycle {d k : Nat} (h : k < d + 512) : k < d ∨ ∃ i < 256, k = d + 2 * i ∨ k = d + 2 * i + 1 := by
  by_cases hk : k < d
  · exact .inl hk
  · exact .inr ⟨(k - d) / 2, by omega, by omega⟩

/-- The engine of `t` is `k` cycles into its DMA. -/
def onCycle (v : Byte) (d k : Nat) (t : State) : Prop := t.dma = engineAt v d k t.dma.latch

theorem onCycle_of_eq {v latch : Byte} {d k : Nat} {t : State} (h : t.dma = engineAt v d k latch) : onCycle v d k t := by
  rw [onCycle, h, engineAt_latch]

theorem onCycle_active {v : Byte} {d k : Nat} {t : State} (h : onCycle v d k t) : t.dma.active = decide (k < d + 512) := by
  rw [h, engineAt_active]

theorem dmaCycle_waiting {v : Byte} {d k : Nat} {t : State} (h : onCycle v d k t) (hk : k < d) :
    dmaCycle t = { t with dma := engineAt v d (k + 1) t.dma.latch } := by
  rw [onCycle, engineAt_waiting hk] at h
  have turn : dmaCycle t = { t with dma := { t.dma with dummy := t.dma.dummy - 1 } } := if_pos (by rw [h]; exact Nat.sub_pos_of_lt hk)
  rw [turn]
  generalize t.dma.latch = l at h
  rw [h]
  by_cases hlast : k + 1 < d
  · rw [engineAt_waiting hlast, Nat.sub_sub]
  · obtain rfl : d = k + 1 := by omega
    have first := engineAt_reading (i := 0) (by decide) v (k + 1) l
    rw [Nat.mul_zero, Nat.add_zero] at first
    rw [first]
    simp

theorem dmaCycle_reading {v : Byte} {d i : Nat} {t : State} (h : onCycle v d (d + 2 * i) t) (hi : i < 256) :
    dmaCycle t =
      { (memRead (wordOf v (BitVec.ofNat 8 i)) t).2 with
        dma := engineAt v d (d + 2 * i + 1) (peek (wordOf v (BitVec.ofNat 8 i)) t) } := by
  rw [onCycle, engineAt_reading hi] at h
  have hdummy : t.dma.dummy = 0 := by rw [h]
  have hphase : t.dma.phase = .read := by rw [h]
  have hpage : t.dma.page = v := by rw [h]
  have hindex : t.dma.index = BitVec.ofNat 8 i := by rw [h]
  have turn : dmaCycle t = dmaRead t := by simp [dmaCycle, hdummy, hphase]
  rw [turn, dmaRead, hpage, hindex, join_eq_wordOf, engineAt_writing hi]
  simp only [memRead_dma]
  generalize t.dma.latch = l at h
  rw [h]
  rfl

theorem dmaCycle_writing {v : Byte} {d i : Nat} {t : State} (h : onCycle v d (d + 2 * i + 1) t) (hi : i < 256) :
    dmaCycle t =
      { t with
        ppu := { t.ppu with oam := Memory.write t.ppu.oam i t.dma.latch },
        dma := engineAt v d (d + 2 * (i + 1)) t.dma.latch } := by
  rw [onCycle, engineAt_writing hi] at h
  have hdummy : t.dma.dummy = 0 := by rw [h]
  have hphase : t.dma.phase = .write := by rw [h]
  have hindex : t.dma.index = BitVec.ofNat 8 i := by rw [h]
  have hvalue : (BitVec.ofNat 8 i).toNat = i := Nat.mod_eq_of_lt hi
  have turn : dmaCycle t = dmaWrite t := by simp [dmaCycle, hdummy, hphase]
  have next : (if t.dma.index = 255#8 then { t.dma with active := false, phase := .read }
      else { t.dma with index := t.dma.index + 1#8, phase := .read }) = engineAt v d (d + 2 * (i + 1)) t.dma.latch := by
    rw [hindex]
    generalize t.dma.latch = l at h
    rw [h]
    by_cases hlast : i = 255
    · subst hlast
      exact (if_pos rfl).trans (engineAt_done v d l).symm
    · have inPage : BitVec.ofNat 8 i ≠ 255#8 := fun e => hlast (by rw [← hvalue, e]; rfl)
      rw [if_neg inPage, engineAt_reading (by omega), BitVec.ofNat_add]
  rw [turn, dmaWrite, next, hindex, hvalue]

theorem onCycle_dmaCycle {v : Byte} {d k : Nat} {t : State} (h : onCycle v d k t) (hk : k < d + 512) : onCycle v d (k + 1) (dmaCycle t) := by
  rcases engine_cycle hk with hwait | ⟨i, hi, rfl | rfl⟩
  · exact onCycle_of_eq (congrArg State.dma (dmaCycle_waiting h hwait))
  · exact onCycle_of_eq (congrArg State.dma (dmaCycle_reading h hi))
  · exact onCycle_of_eq (congrArg State.dma (dmaCycle_writing h hi))

/-! A DMA by its cycles -/

theorem afterDma_succ (k : Nat) (s : State) : afterDma (k + 1) s = dmaCycle (afterDma k s) := by
  induction k generalizing s with
  | zero => rfl
  | succ k ih => exact ih (dmaCycle s)

theorem onCycle_afterDma {v : Byte} {d k : Nat} {s : State} (h : onCycle v d 0 s) (hk : k ≤ d + 512) : onCycle v d k (afterDma k s) := by
  induction k with
  | zero => exact h
  | succ k ih =>
    rw [afterDma_succ]
    exact onCycle_dmaCycle (ih (by omega)) hk

/-- One byte of the page moved to OAM. -/
def moveByte (v : Byte) (i : Nat) (t : State) : State :=
  let r := memRead (wordOf v (BitVec.ofNat 8 i)) t
  { r.2 with ppu := { r.2.ppu with oam := Memory.write r.2.ppu.oam i r.1 } }

theorem moves_succ (v : Byte) (i : Nat) (s : State) : moves v (i + 1) s = moveByte v i (moves v i s) := rfl

/-- No read sees the DMA engine, and none changes it. -/
theorem memRead_withDma (a : Addr) (e : Dma) (s : State) :
    memRead a { s with dma := e } = ((memRead a s).1, { (memRead a s).2 with dma := e }) := by
  have register (i : Nat) : ppuRegRead i { s with dma := e } = ((ppuRegRead i s).1, { (ppuRegRead i s).2 with dma := e }) := by
    unfold ppuRegRead
    split
    · rfl
    · rfl
    · have same : vramAddr { s with dma := e } = vramAddr s := rfl
      simp only [dataRead, same]
      split <;> rfl
    · rfl
  have pad : padRead { s with dma := e } = ((padRead s).1, { (padRead s).2 with dma := e }) := by
    unfold padRead
    (repeat' split) <;> rfl
  unfold memRead
  rw [register, pad]
  (repeat' split) <;> rfl

theorem moveByte_withDma (v : Byte) (i : Nat) (e : Dma) (t : State) : moveByte v i { t with dma := e } = { moveByte v i t with dma := e } := by
  simp only [moveByte, memRead_withDma]

/-- The read and the write of a byte are one move. -/
theorem dmaCycle_twice {v : Byte} {d i : Nat} {t : State} (h : onCycle v d (d + 2 * i) t) (hi : i < 256) (e : Dma) :
    { dmaCycle (dmaCycle t) with dma := e } = moveByte v i { t with dma := e } := by
  have hread := dmaCycle_reading h hi
  have hlatch : (dmaCycle t).dma.latch = peek (wordOf v (BitVec.ofNat 8 i)) t := by rw [hread]; exact engineAt_latch ..
  rw [dmaCycle_writing (onCycle_dmaCycle h (by omega)) hi, hlatch, hread, moveByte_withDma]
  rfl

theorem afterDma_waiting {v : Byte} {d k : Nat} {s : State} (h : onCycle v d 0 s) (hk : k ≤ d) (e : Dma) :
    { afterDma k s with dma := e } = { s with dma := e } := by
  induction k with
  | zero => rfl
  | succ k ih =>
    rw [afterDma_succ, dmaCycle_waiting (onCycle_afterDma h (by omega)) hk]
    exact ih (by omega)

theorem afterDma_moves {v : Byte} {d i : Nat} {s : State} (h : onCycle v d 0 s) (hi : i ≤ 256) (e : Dma) :
    { afterDma (d + 2 * i) s with dma := e } = moves v i { s with dma := e } := by
  induction i with
  | zero => exact afterDma_waiting h (Nat.le_refl d) e
  | succ i ih =>
    have two : d + 2 * (i + 1) = d + 2 * i + 1 + 1 := by omega
    rw [two, afterDma_succ, afterDma_succ, dmaCycle_twice (onCycle_afterDma h (by omega)) hi, ih (by omega), moves_succ]

/-! A page of plain memory -/

/-- What a read of plain memory sees: a DMA keeps it. -/
def plainMemory (s : State) : Config × HostPort × Memory 8 × Memory 8 × Mapper := (s.cfg, s.host, s.ram, s.wram, s.mapper)

theorem dmaCycle_plainMemory (s : State) : plainMemory (dmaCycle s) = plainMemory s := by
  rw [dmaCycle_state]
  rfl

theorem plainPage_quiet {v : Byte} (h : v < 0x20#8 ∨ 0x60#8 ≤ v) (i : Byte) : quiet (wordOf v i) := by
  have value := wordOf_toNat v i
  have := i.isLt
  rcases h with h | h
  · left
    bv_omega
  · exact quiet_of_cartridge (by bv_omega)

theorem peek_plainPage {v : Byte} (h : v < 0x20#8 ∨ 0x60#8 ≤ v) {s t : State} (hmem : plainMemory t = plainMemory s) (i : Byte) :
    peek (wordOf v i) t = peek (wordOf v i) s := by
  simp only [plainMemory, Prod.mk.injEq] at hmem
  obtain ⟨hcfg, hhost, hram, hwram, hmapper⟩ := hmem
  have hquiet := plainPage_quiet h i
  refine peek_congr hcfg hhost (fun _ => by rw [hram]) (fun hlow hhigh => ?_) (fun hpad => ?_) (fun _ _ => by rw [hwram]) fun _ => hmapper
  · rcases hquiet with hq | ⟨hq, -⟩ <;> bv_omega
  · rcases hquiet with hq | ⟨-, hq⟩
    · bv_omega
    · exact absurd hpad hq

/-- `k` cycles into the DMA: the bytes moved so far are in OAM, and between a read and its write the byte is in the latch. -/
structure Copied (v : Byte) (d : Nat) (s : State) (k : Nat) (t : State) : Prop where
  cycle : onCycle v d k t
  memory : plainMemory t = plainMemory s
  moved : ∀ i < 256, d + 2 * (i + 1) ≤ k → Memory.read t.ppu.oam i = peek (wordOf v (BitVec.ofNat 8 i)) s
  held : ∀ i < 256, k = d + 2 * i + 1 → t.dma.latch = peek (wordOf v (BitVec.ofNat 8 i)) s

theorem Copied.start {v : Byte} {d : Nat} {s t : State} (h : onCycle v d 0 t) (hmem : plainMemory t = plainMemory s) : Copied v d s 0 t :=
  ⟨h, hmem, fun _ _ hk => absurd hk (by omega), fun _ _ hk => absurd hk (by omega)⟩

/-- What leaves the engine, OAM and plain memory keeps the copy. -/
theorem Copied.keep {v : Byte} {d k : Nat} {s t u : State} (h : Copied v d s k t) (hdma : u.dma = t.dma) (hoam : u.ppu.oam = t.ppu.oam)
    (hmem : plainMemory u = plainMemory t) : Copied v d s k u := by
  obtain ⟨cycle, memory, moved, held⟩ := h
  exact ⟨by rwa [onCycle, hdma], hmem.trans memory, by rwa [hoam], by rwa [hdma]⟩

theorem Copied.dmaCycle {v : Byte} (hv : v < 0x20#8 ∨ 0x60#8 ≤ v) {d k : Nat} {s t : State} (h : Copied v d s k t) (hk : k < d + 512) :
    Copied v d s (k + 1) (dmaCycle t) := by
  obtain ⟨cycle, memory, moved, held⟩ := h
  refine ⟨onCycle_dmaCycle cycle hk, (dmaCycle_plainMemory t).trans memory, ?_, ?_⟩
  all_goals rcases engine_cycle hk with hwait | ⟨j, hj, rfl | rfl⟩
  · intro i _ hle
    omega
  · rw [dmaCycle_reading cycle hj, memRead_of_quiet (plainPage_quiet hv _)]
    exact fun i hi hle => moved i hi (by omega)
  · rw [dmaCycle_writing cycle hj]
    intro i hi hle
    by_cases hij : i = j
    · rw [hij, Memory.read_write_same, held j hj rfl]
    · rw [Memory.read_write_other _ _ hij, moved i hi (by omega)]
  · intro i _ heq
    omega
  · rw [dmaCycle_reading cycle hj, engineAt_latch, peek_plainPage hv memory]
    intro i _ heq
    obtain rfl : i = j := by omega
    rfl
  · intro i _ heq
    omega

theorem Copied.afterDma {v : Byte} (hv : v < 0x20#8 ∨ 0x60#8 ≤ v) {d k : Nat} {s t : State} (h : Copied v d s 0 t) (hk : k ≤ d + 512) :
    Copied v d s k (afterDma k t) := by
  induction k with
  | zero => exact h
  | succ k ih =>
    rw [afterDma_succ]
    exact (ih (by omega)).dmaCycle hv hk

theorem Copied.page {v : Byte} {d : Nat} {s t : State} (h : Copied v d s (d + 512) t) (i : Byte) :
    Memory.read t.ppu.oam i.toNat = peek (wordOf v i) s := by
  have := i.isLt
  rw [h.moved i.toNat this (by omega), BitVec.ofNat_toNat, BitVec.setWidth_eq]

/-! A DMA by steps -/

theorem spriteStep_oam (line d : Nat) (s : State) : (spriteStep line d s).ppu.oam = s.ppu.oam := by
  by_cases hd : d = 257
  · rw [hd, spriteStep_eval, spriteEval_eq]
  · rw [spriteStep, if_neg hd]
    (repeat' split) <;> rfl

theorem dotEvents_oam (line d : Nat) (s : State) : (dotEvents line d s).ppu.oam = s.ppu.oam := by
  unfold dotEvents
  (repeat' split) <;> rfl

/-- No dot writes OAM. -/
theorem ppuDot_oam (s : State) : (ppuDot s).ppu.oam = s.ppu.oam := by
  let k := fun t : State => t.ppu.oam
  rw [ppuDot_ppu, advance_frame]
  calc k (dotWork s.ppu.scanline s.ppu.dot s)
    _ = _ := ite_keeps k _ (spriteStep_oam _ _ _)
    _ = _ := ite_keeps k _ rfl
    _ = _ := ite_keeps k _ (congrArg Ppu.oam (bgStep_exceptBackground _ _ _) :)
    _ = k s := dotEvents_oam _ _ s

theorem finishTick_oam (s : State) : (finishTick s).ppu.oam = s.ppu.oam := by
  show (ppuDot (ppuDot (ppuDot s))).ppu.oam = s.ppu.oam
  rw [ppuDot_oam, ppuDot_oam, ppuDot_oam]

theorem finishTick_plainMemory (s : State) : plainMemory (finishTick s) = plainMemory s := by
  simp only [plainMemory, finishTick_cfg, finishTick_host, finishTick_ram, finishTick_wram, finishTick_mapper]

theorem Copied.finishTick {v : Byte} {d k : Nat} {s t : State} (h : Copied v d s k t) : Copied v d s k (finishTick t) :=
  h.keep (finishTick_dma t) (finishTick_oam t) (finishTick_plainMemory t)

theorem step_of_dma {s : State} (h : (hostTurn s).dma.active = true) : step s = .next (finishTick (dmaCycle (hostTurn s))) := by
  rw [step, tick, apuStep, cpuSlot, if_pos h]

theorem afterSteps_succ {k : Nat} {s u : State} (h : step (afterSteps k s) = .next u) : afterSteps (k + 1) s = u := by
  induction k generalizing s with
  | zero =>
    rw [afterSteps] at h
    rw [afterSteps, h]
    rfl
  | succ k ih =>
    rw [afterSteps] at h ⊢
    split at h
    next t ht =>
      exact ih h
    next hfail => exact absurd h (hfail u)

/-- The CPU registers and the cycles owed as they were, the cycle counter `n` on. -/
def frozen (s : State) (n : Nat) (t : State) : Prop :=
  t.a = s.a ∧ t.x = s.x ∧ t.y = s.y ∧ t.s = s.s ∧ t.p = s.p ∧ t.pc = s.pc ∧ t.idle = s.idle ∧ t.cycles = s.cycles + BitVec.ofNat 64 n

theorem frozen_finishTick {s t : State} {n : Nat} (h : frozen s n t) : frozen s (n + 1) (finishTick t) := by
  obtain ⟨ha, hx, hy, hs, hp, hpc, hidle, hcycles⟩ := h
  simp only [frozen, finishTick_a, finishTick_x, finishTick_y, finishTick_s, finishTick_p, finishTick_pc, finishTick_idle, finishTick_cycles]
  exact ⟨ha, hx, hy, hs, hp, hpc, hidle, by rw [hcycles, BitVec.ofNat_add, BitVec.add_assoc]⟩

theorem frozen_dmaCycle {s t : State} {n : Nat} (h : frozen s n t) : frozen s n (dmaCycle t) := by
  rw [dmaCycle_state]
  exact h

theorem afterSteps_dma {v : Byte} {d : Nat} {s t : State} (hscript : s.host.script = []) (hcycle : onCycle v d 0 t)
    (hmem : plainMemory t = plainMemory s) (hfrozen : frozen s 1 t) {k : Nat} (hk : k ≤ d + 512) :
    onCycle v d k (afterSteps k t) ∧ plainMemory (afterSteps k t) = plainMemory s ∧ frozen s (k + 1) (afterSteps k t) ∧
      (v < 0x20#8 ∨ 0x60#8 ≤ v → Copied v d s k (afterSteps k t)) := by
  induction k with
  | zero => exact ⟨hcycle, hmem, hfrozen, fun _ => .start hcycle hmem⟩
  | succ k ih =>
    obtain ⟨cycle, memory, still, copy⟩ := ih (by omega)
    have hhost : (afterSteps k t).host = s.host := congrArg (·.2.1) memory
    have turn : hostTurn (afterSteps k t) = afterSteps k t := by
      rw [hostTurn, hhost, hscript]
    have active : (afterSteps k t).dma.active = true := (onCycle_active cycle).trans (decide_eq_true hk)
    have next : step (afterSteps k t) = .next (finishTick (dmaCycle (afterSteps k t))) := by
      have stepped := step_of_dma (s := afterSteps k t) (by rwa [turn])
      rwa [turn] at stepped
    rw [afterSteps_succ next]
    refine ⟨?_, ?_, frozen_finishTick (frozen_dmaCycle still), fun hv => ((copy hv).dmaCycle hv hk).finishTick⟩
    · rw [onCycle, finishTick_dma]
      exact onCycle_dmaCycle cycle hk
    · rw [finishTick_plainMemory, dmaCycle_plainMemory, memory]

/-- The dummy cycles of a DMA: one from an even cycle, two from an odd one (R321). -/
def dummies (s : State) : Nat := if s.cycles.getLsbD 0 then 2 else 1

theorem dma_length (s : State) : (if s.cycles.getLsbD 0 then 514 else 513) = dummies s + 512 := by
  unfold dummies
  split <;> rfl

theorem memWrite_dma (v : Byte) (s : State) : memWrite 0x4014#16 v s = { s with dma := engineAt v (dummies s) 0 s.dma.latch } := by
  have start : memWrite 0x4014#16 v s = dmaStart v s := rfl
  have waiting : 0 < dummies s := by
    unfold dummies
    split <;> decide
  rw [start, engineAt_waiting waiting]
  rfl

/-- Settles O45: the engine's place in its DMA is a function of the cycle, each read and write is a move, and the dots between the cycles
touch neither the engine, OAM nor plain memory. -/
theorem dmaCopiesThePageInto513Or514Cycles : Obligations.DmaCopiesThePageInto513Or514Cycles := by
  refine ⟨fun s v => ?_, fun s h => step_of_dma h, fun s v hscript => ?_⟩
  · intro n s0
    have hn : n = dummies s + 512 := dma_length s
    have hstart : s0 = { s with dma := engineAt v (dummies s) 0 s.dma.latch } := memWrite_dma v s
    have start : onCycle v (dummies s) 0 s0 := onCycle_of_eq (by rw [hstart])
    have memory : plainMemory s0 = plainMemory s := by rw [hstart]; rfl
    refine ⟨fun k hk => ?_, ?_, ?_, fun hv i => ?_⟩
    · exact (onCycle_active (onCycle_afterDma start (by omega))).trans (decide_eq_true (hn ▸ hk))
    · exact (onCycle_active (onCycle_afterDma start (k := n) (by omega))).trans (decide_eq_false (by omega))
    · have bytes := afterDma_moves start (i := 256) (by decide) s.dma
      have hlength : dummies s + 2 * 256 = n := hn.symm
      have restored : { s0 with dma := s.dma } = s := by rw [hstart]
      rwa [hlength, restored] at bytes
    · rw [hn]
      exact ((Copied.start start memory).afterDma hv (by omega)).page i
  · intro n s0
    have hn : n = dummies s + 512 := dma_length s
    have hstart : s0 = finishTick { s with dma := engineAt v (dummies s) 0 s.dma.latch } := congrArg finishTick (memWrite_dma v s)
    have start : onCycle v (dummies s) 0 s0 := onCycle_of_eq (by rw [hstart, finishTick_dma])
    have memory : plainMemory s0 = plainMemory s := by rw [hstart, finishTick_plainMemory]; rfl
    have still : frozen s 1 s0 := by
      rw [hstart]
      exact frozen_finishTick (n := 0) ⟨rfl, rfl, rfl, rfl, rfl, rfl, rfl, (BitVec.add_zero _).symm⟩
    have run {k : Nat} (hk : k ≤ dummies s + 512) := afterSteps_dma hscript start memory still hk
    refine ⟨fun k hk => ?_, fun hv i => ?_⟩
    · obtain ⟨cycle, -, frozenAt, -⟩ := run (k := k) (by omega)
      exact ⟨by rw [onCycle_active cycle, hn], frozenAt⟩
    · obtain ⟨-, -, -, copy⟩ := run (Nat.le_refl _)
      rw [hn]
      exact (copy hv).page i

end Sys2Proof.Machine
end
